-- ==== Sys2Proof/Word.lean ====
section
/-! DEFINITION. The machine's word and byte, and the undefined sentinel. -/

namespace Sys2Proof

/-- Every register, latch data field, immediate, address and counter is 32 bits wide
(00_scope.md R8). Arithmetic on it wraps modulo 2^32 (R10). -/
abbrev Word := BitVec 32

/-- The data-memory byte (00_scope.md R8). -/
abbrev Byte := BitVec 8

/-- `UNDEF`, the undefined sentinel. It is an ordinary data value to the datapath: no rule
compares a data value with it (00_scope.md R9). -/
def undef : Word := 0xFFFFFFFF#32

end Sys2Proof
end

