-- ==== Sys2Proof/Syntax.lean ====
section
/-! DEFINITION. Instruction records, opcodes and the instruction syntax: one constructor of
`Instr` for each row of spec/opcode_table.json. -/

namespace Sys2Proof

/-- An instruction record (10_state.md R28): five 32-bit fields. A register field is 32 bits wide
so that `UNDEF` can mean "no register"; `opcode` is any number, known or not. -/
structure Record where
  opcode : Word
  dest : Word
  src1 : Word
  src2 : Word
  imm : Word
  deriving DecidableEq, Repr

/-- The 22 opcodes, in the order of their numbers (30_encoding.md R82). -/
inductive Opcode where
  | LW | SW | ADD | ADDI | SUB | SUBI | XOR
  | BEQZ | BNEZ | BLTZ | BGTZ | BLEZ | BGEZ | JUMP
  | EOP | NOP
  | LWS | SWS | ADDS | SUBS | MULTS | DIVS
  deriving DecidableEq, Repr

/-- `NOP_REC` (00_scope.md section 4; 10_state.md R31): opcode number 15, no field used. -/
def nopRec : Record := ⟨15#32, undef, undef, undef, undef⟩

/-- A register index, of the integer or of the floating-point file (10_state.md R20, R22). -/
abbrev Reg := Fin 32

/-- The two register files; the opcode alone says which one a field indexes (10_state.md R23). -/
inductive RegFile where
  | INT | FP
  deriving DecidableEq, Repr

/-- An instruction: an opcode with the fields the opcode uses, in the roles of
30_encoding.md R83. The fields an opcode does not use are in the `Record`, not here. -/
inductive Instr where
  /-- `LW Rd imm(Rs)` (R110) -/
  | lw (rd rs : Reg) (imm : Word)
  /-- `SW Rs imm(Rt)`: `rs` the data (src1), `rt` the base (src2) (R111) -/
  | sw (rs rt : Reg) (imm : Word)
  /-- `ADD Rd Rs Rt` (R100) -/
  | add (rd rs rt : Reg)
  /-- `ADDI Rd Rs imm` (R101) -/
  | addi (rd rs : Reg) (imm : Word)
  /-- `SUB Rd Rs Rt` (R102) -/
  | sub (rd rs rt : Reg)
  /-- `SUBI Rd Rs imm` (R103) -/
  | subi (rd rs : Reg) (imm : Word)
  /-- `XOR Rd Rs Rt` (R104) -/
  | xor (rd rs rt : Reg)
  /-- `BEQZ Rs label` (R120) -/
  | beqz (rs : Reg) (imm : Word)
  /-- `BNEZ Rs label` (R121) -/
  | bnez (rs : Reg) (imm : Word)
  /-- `BLTZ Rs label` (R122) -/
  | bltz (rs : Reg) (imm : Word)
  /-- `BGTZ Rs label` (R123) -/
  | bgtz (rs : Reg) (imm : Word)
  /-- `BLEZ Rs label` (R124) -/
  | blez (rs : Reg) (imm : Word)
  /-- `BGEZ Rs label` (R125) -/
  | bgez (rs : Reg) (imm : Word)
  /-- `JUMP label` (R126) -/
  | jump (imm : Word)
  /-- `EOP` (R145) -/
  | eop
  /-- `NOP` (R146) -/
  | nop
  /-- `LWS Fd imm(Rs)` (R112): `fd` floating-point, `rs` integer -/
  | lws (fd rs : Reg) (imm : Word)
  /-- `SWS Fs imm(Rt)` (R113): `fs` floating-point data, `rt` integer base -/
  | sws (fs rt : Reg) (imm : Word)
  /-- `ADDS Fd Fs Ft` (R135) -/
  | adds (fd fs ft : Reg)
  /-- `SUBS Fd Fs Ft` (R136) -/
  | subs (fd fs ft : Reg)
  /-- `MULTS Fd Fs Ft` (R137) -/
  | mults (fd fs ft : Reg)
  /-- `DIVS Fd Fs Ft` (R138) -/
  | divs (fd fs ft : Reg)
  deriving DecidableEq, Repr

/-- The opcode of an instruction. -/
def Instr.opcode : Instr → Opcode
  | .lw _ _ _ => .LW
  | .sw _ _ _ => .SW
  | .add _ _ _ => .ADD
  | .addi _ _ _ => .ADDI
  | .sub _ _ _ => .SUB
  | .subi _ _ _ => .SUBI
  | .xor _ _ _ => .XOR
  | .beqz _ _ => .BEQZ
  | .bnez _ _ => .BNEZ
  | .bltz _ _ => .BLTZ
  | .bgtz _ _ => .BGTZ
  | .blez _ _ => .BLEZ
  | .bgez _ _ => .BGEZ
  | .jump _ => .JUMP
  | .eop => .EOP
  | .nop => .NOP
  | .lws _ _ _ => .LWS
  | .sws _ _ _ => .SWS
  | .adds _ _ _ => .ADDS
  | .subs _ _ _ => .SUBS
  | .mults _ _ _ => .MULTS
  | .divs _ _ _ => .DIVS

end Sys2Proof
end

