-- ==== Sys2Proof/Config.lean ====
section
/-! DEFINITION. What an implementation fixes before reset (00_scope.md R8), and the free values the
spec leaves open: constants with no body, of which nothing can be proved. -/

namespace Sys2Proof

/-- The four floating-point operations `FADD FSUB FMUL FDIV` (43_fp_arith.md R139). -/
inductive FpOp where
  | add | sub | mul | div
  deriving DecidableEq, Repr

/-- One value of a numerics given as an argument: what the operation answers on two patterns. -/
structure FpEntry where
  op : FpOp
  a : Word
  b : Word
  result : Word
  deriving DecidableEq, Repr

/-- Which functions `FADD FSUB FMUL FDIV` are (00_scope.md R8, 43_fp_arith.md R139): the default, IEEE
754 binary32, or functions given as an argument. A given numerics is written as data, the entries
where it departs from the default: the patterns are finitely many, so every four total functions have
such a list (`Machine.FpNumerics.ofFunction`; log 6). -/
inductive FpNumerics where
  | ieee754
  | given (entries : List FpEntry)
  deriving DecidableEq, Repr

/-- The kind of a functional unit (10_state.md R43). -/
inductive UnitKind where
  | INTEGER | ADDER | MULTIPLIER | DIVIDER
  deriving DecidableEq, Repr

/-- The parameters that are fixed before reset and do not change while the machine runs
(00_scope.md R8). `none` for a capacity means that it has no bound (log 5). -/
structure Config where
  hasFp : Bool
  dmemSize : Nat
  dmemLatency : Nat
  maxUnits : Option Nat
  imemCapacity : Option Nat
  numerics : FpNumerics
  deriving DecidableEq, Repr

/-- The configuration of `Machine.State.reset`. DESIGN CHOICE, unsafe: the spec takes each value as an
argument (log 4, log 5). -/
def Config.initial : Config :=
  { hasFp := true
    dmemSize := 1024
    dmemLatency := 0
    maxUnits := none
    imemCapacity := none
    numerics := .ieee754 }

/-- FREE VALUE (log 7): the bits from which the NaN pattern of a NaN result is formed; which pattern
it is, is left OPEN (43_fp_arith.md R139, 93_implementation_defined.md U10). -/
opaque Config.nanBits : FpOp → Word → Word → Word

/-- FREE VALUE (log 17): `IR_U32`, the 32-bit form of a record (60_exceptions.md R251, U12). -/
opaque Config.irU32 : Record → Word

/-- FREE VALUE (log 17): the pair `get_IPC` returns when no cycle has run, for that number of
instructions (60_exceptions.md R248, U11). -/
opaque Config.ipcAtCycleZero : Nat → Nat × Nat

/-- FREE VALUE (log 17): `IPC_FORMAT`, the bits of the API result for an exact rational
(60_exceptions.md R248, U11). -/
opaque Config.ipcFormat : Nat × Nat → List Bool

end Sys2Proof
end

