-- ==== Sys2Proof/Decode.lean ====
section
/-! DEFINITION. The canonical 160-bit word, the decoder from records to instructions, and after it
the encoder (30_encoding.md R80 to R89). -/

namespace Sys2Proof

/-! ## Decoding -/

/-- The integer opcodes in the order of their numbers 0 to 15 (30_encoding.md R82). -/
def integerOpcodes : List Opcode :=
  [.LW, .SW, .ADD, .ADDI, .SUB, .SUBI, .XOR, .BEQZ, .BNEZ, .BLTZ, .BGTZ, .BLEZ, .BGEZ, .JUMP,
    .EOP, .NOP]

/-- The floating-point opcodes, numbers 16 to 21; they exist only with `HAS_FP`
(30_encoding.md R82, R89). -/
def fpOpcodes : List Opcode := [.LWS, .SWS, .ADDS, .SUBS, .MULTS, .DIVS]

/-- The opcode of a number in a variant; `none` is an unknown opcode (30_encoding.md R88, R89). -/
def decodeOpcode (hasFp : Bool) (n : Word) : Option Opcode :=
  (integerOpcodes ++ if hasFp then fpOpcodes else [])[n.toNat]?

/-- The opcode of a record in a variant; `none` is an unknown opcode. -/
def Record.op (hasFp : Bool) (r : Record) : Option Opcode := decodeOpcode hasFp r.opcode

/-- The register fields of a record. -/
inductive RegField where
  | dest | src1 | src2
  deriving DecidableEq, Repr

/-- What a record decodes to. Decoding is total (30_encoding.md R81). -/
inductive Decoded where
  /-- An instruction of the variant. -/
  | instr (i : Instr)
  /-- An opcode the variant does not have; it executes with no effect (R88). -/
  | unknown
  /-- A field the opcode uses as a register index holds 32 or more (R87, U3). -/
  | badRegister (field : RegField) (value : Word)
  deriving DecidableEq, Repr

/-- Reads one register field, rejecting by name a value that is no register's index
(30_encoding.md R87 condition 2). -/
def decodeReg (field : RegField) (w : Word) (k : Reg → Decoded) : Decoded :=
  if h : w.toNat < 32 then k ⟨w.toNat, h⟩ else .badRegister field w

/-- `dest`, `src1`, `src2` as registers (formats R and FR of 30_encoding.md R83). -/
def decodeThree (r : Record) (k : Reg → Reg → Reg → Instr) : Decoded :=
  decodeReg .dest r.dest fun d => decodeReg .src1 r.src1 fun s => decodeReg .src2 r.src2 fun t =>
    .instr (k d s t)

/-- `dest` and `src1` as registers, and the immediate (formats I and LOAD). -/
def decodeDestSrc (r : Record) (k : Reg → Reg → Word → Instr) : Decoded :=
  decodeReg .dest r.dest fun d => decodeReg .src1 r.src1 fun s => .instr (k d s r.imm)

/-- `src1` and `src2` as registers, and the immediate (format STORE). -/
def decodeTwoSrc (r : Record) (k : Reg → Reg → Word → Instr) : Decoded :=
  decodeReg .src1 r.src1 fun s => decodeReg .src2 r.src2 fun t => .instr (k s t r.imm)

/-- `src1` as a register, and the immediate (format BRANCH). -/
def decodeOneSrc (r : Record) (k : Reg → Word → Instr) : Decoded :=
  decodeReg .src1 r.src1 fun s => .instr (k s r.imm)

/-- The fields an opcode uses, in the roles of 30_encoding.md R83. Fields it does not use are
ignored (93_implementation_defined.md U14; log 14). -/
def decodeFields (r : Record) : Opcode → Decoded
  | .LW => decodeDestSrc r .lw
  | .SW => decodeTwoSrc r .sw
  | .ADD => decodeThree r .add
  | .ADDI => decodeDestSrc r .addi
  | .SUB => decodeThree r .sub
  | .SUBI => decodeDestSrc r .subi
  | .XOR => decodeThree r .xor
  | .BEQZ => decodeOneSrc r .beqz
  | .BNEZ => decodeOneSrc r .bnez
  | .BLTZ => decodeOneSrc r .bltz
  | .BGTZ => decodeOneSrc r .bgtz
  | .BLEZ => decodeOneSrc r .blez
  | .BGEZ => decodeOneSrc r .bgez
  | .JUMP => .instr (.jump r.imm)
  | .EOP => .instr .eop
  | .NOP => .instr .nop
  | .LWS => decodeDestSrc r .lws
  | .SWS => decodeTwoSrc r .sws
  | .ADDS => decodeThree r .adds
  | .SUBS => decodeThree r .subs
  | .MULTS => decodeThree r .mults
  | .DIVS => decodeThree r .divs

/-- The decoder: total on every record, in a variant with or without `HAS_FP`. -/
def decodeRecord (hasFp : Bool) (r : Record) : Decoded :=
  match r.op hasFp with
  | none => .unknown
  | some op => decodeFields r op

/-- The record of a canonical word: opcode 159..128, dest 127..96, src1 95..64, src2 63..32, imm
31..0 (30_encoding.md R81). -/
def Record.ofBits (w : BitVec 160) : Record :=
  { opcode := w.extractLsb' 128 32
    dest := w.extractLsb' 96 32
    src1 := w.extractLsb' 64 32
    src2 := w.extractLsb' 32 32
    imm := w.extractLsb' 0 32 }

/-- Decoding of a canonical word, total. -/
def decodeBits (hasFp : Bool) (w : BitVec 160) : Decoded := decodeRecord hasFp (Record.ofBits w)

/-- The record of an instruction whose bits are `w`, numbered as spec/opcode_table.json numbers
them; every bit above `nbits` is 0. -/
def tableRecord (nbits w : Nat) : Record := Record.ofBits (BitVec.ofNat 160 (w % 2 ^ nbits))

/-- The instruction the decoder reads from an opcode-table word, in the variant that has every row
of the table, `HAS_FP` (log 13). -/
def decodeTableWord (nbits w : Nat) : Option Instr :=
  match decodeRecord true (tableRecord nbits w) with
  | .instr i => some i
  | _ => none

/-! ## Encoding -/

/-- The number of an opcode (30_encoding.md R82). -/
def Opcode.number : Opcode → Word
  | .LW => 0#32
  | .SW => 1#32
  | .ADD => 2#32
  | .ADDI => 3#32
  | .SUB => 4#32
  | .SUBI => 5#32
  | .XOR => 6#32
  | .BEQZ => 7#32
  | .BNEZ => 8#32
  | .BLTZ => 9#32
  | .BGTZ => 10#32
  | .BLEZ => 11#32
  | .BGEZ => 12#32
  | .JUMP => 13#32
  | .EOP => 14#32
  | .NOP => 15#32
  | .LWS => 16#32
  | .SWS => 17#32
  | .ADDS => 18#32
  | .SUBS => 19#32
  | .MULTS => 20#32
  | .DIVS => 21#32

/-- A register index as a 32-bit record field. -/
def Reg.field (r : Reg) : Word := BitVec.ofNat 32 r.val

/-- Formats R and FR: no immediate, so `UNDEF` there (30_encoding.md R83, R86). -/
def encodeThree (op : Opcode) (d s t : Reg) : Record :=
  ⟨op.number, Reg.field d, Reg.field s, Reg.field t, undef⟩

/-- Formats I and LOAD. -/
def encodeDestSrc (op : Opcode) (d s : Reg) (imm : Word) : Record :=
  ⟨op.number, Reg.field d, Reg.field s, undef, imm⟩

/-- Format STORE. -/
def encodeTwoSrc (op : Opcode) (s t : Reg) (imm : Word) : Record :=
  ⟨op.number, undef, Reg.field s, Reg.field t, imm⟩

/-- Format BRANCH. -/
def encodeOneSrc (op : Opcode) (s : Reg) (imm : Word) : Record :=
  ⟨op.number, undef, Reg.field s, undef, imm⟩

/-- Format NONE. -/
def encodeNone (op : Opcode) : Record := ⟨op.number, undef, undef, undef, undef⟩

/-- The record of an instruction: every field its opcode does not use holds `UNDEF`
(30_encoding.md R82, R83, R86). -/
def encode : Instr → Record
  | .lw rd rs imm => encodeDestSrc .LW rd rs imm
  | .sw rs rt imm => encodeTwoSrc .SW rs rt imm
  | .add rd rs rt => encodeThree .ADD rd rs rt
  | .addi rd rs imm => encodeDestSrc .ADDI rd rs imm
  | .sub rd rs rt => encodeThree .SUB rd rs rt
  | .subi rd rs imm => encodeDestSrc .SUBI rd rs imm
  | .xor rd rs rt => encodeThree .XOR rd rs rt
  | .beqz rs imm => encodeOneSrc .BEQZ rs imm
  | .bnez rs imm => encodeOneSrc .BNEZ rs imm
  | .bltz rs imm => encodeOneSrc .BLTZ rs imm
  | .bgtz rs imm => encodeOneSrc .BGTZ rs imm
  | .blez rs imm => encodeOneSrc .BLEZ rs imm
  | .bgez rs imm => encodeOneSrc .BGEZ rs imm
  | .jump imm => ⟨Opcode.JUMP.number, undef, undef, undef, imm⟩
  | .eop => encodeNone .EOP
  | .nop => encodeNone .NOP
  | .lws fd rs imm => encodeDestSrc .LWS fd rs imm
  | .sws fs rt imm => encodeTwoSrc .SWS fs rt imm
  | .adds fd fs ft => encodeThree .ADDS fd fs ft
  | .subs fd fs ft => encodeThree .SUBS fd fs ft
  | .mults fd fs ft => encodeThree .MULTS fd fs ft
  | .divs fd fs ft => encodeThree .DIVS fd fs ft

/-- The canonical word of a record (30_encoding.md R81). -/
def Record.toBits (r : Record) : BitVec 160 := r.opcode ++ r.dest ++ r.src1 ++ r.src2 ++ r.imm

/-- The canonical word of an instruction. -/
def encodeBits (i : Instr) : BitVec 160 := (encode i).toBits

/-- The loader's one arithmetic rule: `(target_index - current_index - 1) << 2`, modulo 2^32
(30_encoding.md R85). -/
def branchOffset (target current : Nat) : Word :=
  (BitVec.ofNat 32 target - BitVec.ofNat 32 current - 1#32) <<< 2

end Sys2Proof
end

