-- ==== Sys2Proof/Machine/State.lean ====
section
/-! DEFINITION. The state of the machine (10_state.md), the reasons a step can stop, and the state
after reset. -/

namespace Sys2Proof.Machine

/-- The five stages (00_scope.md R1). -/
inductive Stage where
  | IF | ID | EX | MEM | WB
  deriving DecidableEq, Repr

/-- A pipeline latch (10_state.md R30). -/
structure Latch where
  ir : Record
  npc : Word
  a : Word
  b : Word
  imm : Word
  aluOutput : Word
  lmd : Word
  cond : Word
  deriving DecidableEq, Repr

/-- `BUBBLE` (10_state.md R31). -/
def bubble : Latch := ⟨nopRec, undef, undef, undef, undef, undef, undef, undef⟩

/-- `EXBUBBLE`: `BUBBLE` with `alu_output = 0` (10_state.md R31, 45_pipeline_stages.md R164). -/
def exBubble : Latch := { bubble with aluOutput := 0#32 }

/-- The values of `stall_kind` (10_state.md R36). -/
inductive StallKind where
  | NONE | RAW | BRANCH
  deriving DecidableEq, Repr

/-- One entry of the functional-unit table (10_state.md R43). The spec describes `instruction` in two
ways, and the model holds both (DESIGN CHOICE, log 27): `instruction` is R43's, the record of the
instruction the unit is running, `NOP_REC` while it is free; `lastAccepted` is R220's, the record the
unit last accepted, kept when the unit is free again. Nothing reads either. -/
structure FunctionalUnit where
  kind : UnitKind
  latency : Nat
  busy : Nat
  instruction : Record
  lastAccepted : Record
  deriving DecidableEq, Repr

/-- Data memory: (address, byte) pairs, addresses strictly rising, none equal to what an unlisted
address reads as (`Memory.fill`). -/
abbrev Memory := List Host.Cell

/-- The state of the machine (10_state.md). INVENTORY.md names the rule of every field. -/
structure State where
  /-- The configuration, fixed before reset (00_scope.md R8). -/
  cfg : Config
  /-- Integer registers (R20). -/
  gp : Vector Word 32
  /-- Floating-point registers (R22); out of every instruction's reach without `HAS_FP`. -/
  fp : Vector Word 32
  /-- The byte address of the next instruction IF will fetch (R24). -/
  pc : Word
  /-- The byte address of instruction index 0 (R25). -/
  base : Word
  /-- Instruction memory: the loaded records. Its length is `prog_len` (R26). -/
  imem : List Record
  loaded : Bool
  /-- Data memory (R29). -/
  dmem : Memory
  ifid : Latch
  idex : Latch
  exmem : Latch
  memwb : Latch
  stallKind : StallKind
  stallRem : Nat
  stallSize : Nat
  branchPending : Bool
  branchTarget : Word
  memStall : Bool
  memCnt : Nat
  exUnit : Option Nat
  eopFetched : Bool
  halted : Bool
  cycle : Word
  fetchedCount : Word
  instCount : Word
  totalStalls : Word
  /-- The functional-unit table (R43). -/
  units : List FunctionalUnit
  /-- The MODEL's own field (log 2): the stage whose contribution `exec` makes. -/
  stage : Stage
  deriving DecidableEq, Repr

/-- Why a step has no next state although the machine could be asked for one: the run is outside
the rules (93_implementation_defined.md, treatment `fault`). Safe: nothing is claimed of what follows. -/
inductive Fault where
  /-- The MEM stage of a load or store whose four bytes do not all lie in data memory
  (20_memory.md R66, U1). Safe. -/
  | dataAddressOutOfRange (addr : Word)
  /-- A fetch at a `pc` with `(pc - base)` not a multiple of 4 (20_memory.md R70, U2). Safe. -/
  | fetchMisaligned (pc : Word)
  /-- A fetch at an index at or beyond `prog_len` (20_memory.md R70, U2). Safe. -/
  | fetchOutsideProgram (pc : Word)
  deriving DecidableEq, Repr

/-- Why the model rejects a request and leaves the state unchanged (93_implementation_defined.md,
treatment `refuse`). All are safe: no next state is claimed. -/
inductive Refusal where
  /-- An instruction with no meaning yet, raised by `exec` alone; no arm uses it. Safe. -/
  | notModelled (mnemonic : String)
  /-- `run` before `load_program`, raised by `step` and `run` (R274, U9). Safe. -/
  | runBeforeLoad
  /-- `load_program` on a loaded machine without `reset` (R273, U9). Safe. -/
  | loadWithoutReset
  /-- `load_program` with more records than `IMEM_CAPACITY` (R273, U4). Safe. -/
  | programTooLong
  /-- A record with a used register field of 32 or more: raised by `load_program`, and by a stage
  that would have to name such a register (R87, U3; log 10). Safe. -/
  | registerOutOfRange
  /-- `init_exec_unit` without `HAS_FP`, where the call does not exist (R227). Safe. -/
  | unitsWithoutFp
  /-- `init_exec_unit` after `load_program` (R272, U8). Safe. -/
  | unitAfterLoad
  /-- `init_exec_unit` with latency 0 (R272, U8). Safe. -/
  | unitLatencyZero
  /-- `init_exec_unit` beyond `MAX_UNITS` (R272, U8). Safe. -/
  | tooManyUnits
  /-- `write_memory` outside data memory (R276, U1). Safe. -/
  | hostWriteOutOfRange
  /-- A floating-point register accessor without `HAS_FP`, where it does not exist (R252). Safe. -/
  | fpRegisterWithoutFp
  deriving DecidableEq, Repr

/-- One entry of the unit table as `init_exec_unit` makes it (47_functional_units.md R220). -/
def freshUnit (kind : UnitKind) (latency : Nat) : FunctionalUnit := ⟨kind, latency, 0, nopRec, nopRec⟩

/-- The state after `reset` of a machine with this configuration and this unit table
(10_state.md R45; 70_reset_and_hazards.md R271). -/
def State.resetWith (cfg : Config) (units : List FunctionalUnit) : State :=
  { cfg := cfg
    gp := Vector.replicate 32 undef
    fp := Vector.replicate 32 undef
    pc := undef
    base := undef
    imem := []
    loaded := false
    dmem := []
    ifid := bubble
    idex := bubble
    exmem := bubble
    memwb := bubble
    stallKind := .NONE
    stallRem := 0
    stallSize := 0
    branchPending := false
    branchTarget := undef
    memStall := false
    memCnt := 0
    exUnit := none
    eopFetched := false
    halted := false
    cycle := 0#32
    fetchedCount := 0#32
    instCount := 0#32
    totalStalls := 0#32
    units := units.map fun u => freshUnit u.kind u.latency
    stage := .IF }

/-- The unit table of `State.reset`: the one of the spec's vectors (95_test_vectors.md P5). DESIGN
CHOICE, unsafe (log 4). -/
def initialUnits : List FunctionalUnit :=
  [freshUnit .INTEGER 1, freshUnit .ADDER 2, freshUnit .MULTIPLIER 4, freshUnit .DIVIDER 8]

/-- The machine right after reset. Its configuration is the model's choice (log 4); everything else
is the table of 10_state.md R45. -/
def State.reset : State := State.resetWith Config.initial initialUnits

end Sys2Proof.Machine
end

