-- ==== Sys2Proof/Machine/Ops.lean ====
section
/-! DEFINITION. The named operations over memory, registers, latches and counters, which every
meaning and every stage rule is written with. The hardware has no exceptions (60_exceptions.md R240,
R244, R245), so there is no operation that takes or returns from one. -/

namespace Sys2Proof.Machine

/-! ## Outcomes -/

/-- The outcome of one meaning, one stage, one cycle or one host call. -/
abbrev Result := Host.Outcome State Fault Refusal

/-- Goes on from a next state; a fault or a refusal stands. -/
def andThen (o : Result) (k : State → Result) : Result :=
  match o with
  | .next s => k s
  | .fault f => .fault f
  | .refused r => .refused r

/-- The next state, if there is one. -/
def nextState? (o : Result) : Option State :=
  match o with
  | .next s => some s
  | .fault _ => none
  | .refused _ => none

/-! ## Data memory -/

/-- What an address that nothing has written reads as (10_state.md R29, R45). -/
def Memory.fill : Byte := 0xFF#8

/-- The byte at an address. -/
def Memory.read : Memory → Nat → Byte
  | [], _ => Memory.fill
  | (k, b) :: rest, a => if k = a then b else Memory.read rest a

/-- Stores one byte, keeping the canonical form: writing `Memory.fill` removes the entry. -/
def Memory.write : Memory → Nat → Byte → Memory
  | [], a, b => if b = Memory.fill then [] else [(a, b)]
  | (k, c) :: rest, a, b =>
    if a < k then
      if b = Memory.fill then (k, c) :: rest else (a, b) :: (k, c) :: rest
    else if a = k then
      if b = Memory.fill then rest else (a, b) :: rest
    else (k, c) :: Memory.write rest a b

/-- Every address of the list is above `lo`, the addresses rise strictly and no byte is
`Memory.fill`. -/
def Memory.wfAbove : Option Nat → Memory → Bool
  | _, [] => true
  | lo, (k, b) :: rest =>
    (match lo with
     | none => true
     | some l => decide (l < k)) &&
      b != Memory.fill && Memory.wfAbove (some k) rest

/-- The canonical form of data memory. -/
def Memory.wf (m : Memory) : Bool := Memory.wfAbove none m

/-- Byte `k` of a word, byte 0 the least significant (20_memory.md R61). -/
def wordByte (v : Word) (k : Nat) : Byte := v.extractLsb' (8 * k) 8

/-- The word of four bytes, the first the least significant (20_memory.md R62). -/
def wordOfBytes (b0 b1 b2 b3 : Byte) : Word := b3 ++ b2 ++ b1 ++ b0

/-- The little-endian word at bytes `a .. a+3` (20_memory.md R62). -/
def Memory.readWord (m : Memory) (a : Nat) : Word :=
  wordOfBytes (m.read a) (m.read (a + 1)) (m.read (a + 2)) (m.read (a + 3))

/-- Stores a little-endian word at bytes `a .. a+3` (20_memory.md R63). -/
def Memory.writeWord (m : Memory) (a : Nat) (v : Word) : Memory :=
  (((m.write a (wordByte v 0)).write (a + 1) (wordByte v 1)).write (a + 2) (wordByte v 2)).write
    (a + 3) (wordByte v 3)

/-- The four bytes at `addr`, the sum not wrapped, lie in data memory (20_memory.md R62, R66). -/
def inDataMemory (cfg : Config) (addr : Word) : Bool := decide (addr.toNat + 3 < cfg.dmemSize)

/-! ## Registers -/

/-- `gp[i]` (10_state.md R20, R21). -/
def State.readGp (s : State) (i : Reg) : Word := s.gp[i.val]

/-- `fp[i]` (10_state.md R22). -/
def State.readFp (s : State) (i : Reg) : Word := s.fp[i.val]

/-- `gp[i] <- v`. No register is hardwired (10_state.md R21). -/
def State.writeGp (s : State) (i : Reg) (v : Word) : State := { s with gp := s.gp.set i.val v }

/-- `fp[i] <- v`. -/
def State.writeFp (s : State) (i : Reg) (v : Word) : State := { s with fp := s.fp.set i.val v }

/-! ## Named updates of the other state -/

/-- The state in which `exec` makes the contribution of stage `g` (log 2). -/
def State.atStage (s : State) (g : Stage) : State := { s with stage := g }

def State.setDmem (s : State) (m : Memory) : State := { s with dmem := m }

def State.setIfid (s : State) (l : Latch) : State := { s with ifid := l }

def State.setIdex (s : State) (l : Latch) : State := { s with idex := l }

def State.setExmem (s : State) (l : Latch) : State := { s with exmem := l }

def State.setMemwb (s : State) (l : Latch) : State := { s with memwb := l }

def State.setPc (s : State) (a : Word) : State := { s with pc := a }

/-- IF's counters for every opcode but `EOP` (45_pipeline_stages.md R169). -/
def State.countFetch (s : State) : State :=
  { s with fetchedCount := s.fetchedCount + 1#32, instCount := s.instCount + 1#32 }

/-- IF's counters for an `EOP`, and `eop_fetched` (45_pipeline_stages.md R169). -/
def State.countEop (s : State) : State :=
  { s with fetchedCount := s.fetchedCount + 1#32, eopFetched := true }

/-- WB's halt (45_pipeline_stages.md R156). -/
def State.haltUnlessPending (s : State) : State := { s with halted := s.halted || !s.branchPending }

/-- A taken branch (45_pipeline_stages.md R163). -/
def State.branchTo (s : State) (target : Word) : State :=
  { s with branchPending := true, branchTarget := target }

/-- A branch that is not taken (45_pipeline_stages.md R163); the consumed redirect of IF (R168). -/
def State.clearBranch (s : State) : State := { s with branchPending := false }

/-- The stall state (10_state.md R36). -/
def State.setStall (s : State) (k : StallKind) (rem size : Nat) : State :=
  { s with stallKind := k, stallRem := rem, stallSize := size }

/-- One unfrozen stalled cycle has been spent (45_pipeline_stages.md R165, R167). -/
def State.countDownStall (s : State) : State := { s with stallRem := s.stallRem - 1 }

/-- The memory-latency state (10_state.md R38). -/
def State.setMemStall (s : State) (on : Bool) (cnt : Nat) : State :=
  { s with memStall := on, memCnt := cnt }

def State.addStalls (s : State) (n : Nat) : State :=
  { s with totalStalls := s.totalStalls + BitVec.ofNat 32 n }

/-- The unit table and the unit held by the instruction in EX (10_state.md R39, R43). -/
def State.setUnits (s : State) (us : List FunctionalUnit) (held : Option Nat) : State :=
  { s with units := us, exUnit := held }

/-- `busy` counts down to 0 and no further (47_functional_units.md R225). A unit that is free then
holds `NOP_REC` (10_state.md R43, which lets this decrement write `instruction`); the record it last
accepted stays in `lastAccepted` (R220). That both are held is the model's choice (log 27). -/
def FunctionalUnit.tick (u : FunctionalUnit) : FunctionalUnit :=
  { u with
    busy := u.busy - 1
    instruction := if u.busy ≤ 1 then nopRec else u.instruction }

/-- Step 6 of the cycle (45_pipeline_stages.md R171). Between cycles `stage` is IF (log 2). -/
def State.endCycle (s : State) : State :=
  { s with cycle := s.cycle + 1#32, units := s.units.map FunctionalUnit.tick, stage := .IF }

end Sys2Proof.Machine
end

