-- ==== Sys2Proof/Machine/Operands.lean ====
section
/-! DEFINITION. What the stages ID, EX and MEM write into the latch at their exit, for every operand
form: which registers ID reads (45_pipeline_stages.md R166), what EX and MEM propagate (R158, R162),
and the effective address (41_load_store.md R114). -/

namespace Sys2Proof.Machine

/-! ## ID -/

/-- ID for every opcode but `NOP`: `IDEX' <- {ir: r, npc: F.npc, a, b, imm}`
(45_pipeline_stages.md R166). -/
def State.decoded (s : State) (a b imm : Word) : State :=
  s.setIdex { bubble with ir := s.ifid.ir, npc := s.ifid.npc, a := a, b := b, imm := imm }

/-- ID for `NOP`: the record and no data field (45_pipeline_stages.md R166). -/
def State.decodedNop (s : State) : State := s.setIdex { bubble with ir := s.ifid.ir }

/-- ID of formats R: two integer sources; `imm` is propagated as the record holds it. -/
def State.decodeIntPair (s : State) (rs rt : Reg) : State :=
  s.decoded (s.readGp rs) (s.readGp rt) s.ifid.ir.imm

/-- ID of formats I, LOAD and BRANCH: one integer source and the immediate. -/
def State.decodeIntImm (s : State) (rs : Reg) (imm : Word) : State :=
  s.decoded (s.readGp rs) undef imm

/-- ID of `SW`: `a` the base register `rt`, `b` the data register `rs` (R166, R111). -/
def State.decodeStoreInt (s : State) (rs rt : Reg) (imm : Word) : State :=
  s.decoded (s.readGp rt) (s.readGp rs) imm

/-- ID of `SWS`: `a` the integer base register `rt`, `b` the floating-point data register `fs`
(R166, R113). -/
def State.decodeStoreFp (s : State) (fs rt : Reg) (imm : Word) : State :=
  s.decoded (s.readGp rt) (s.readFp fs) imm

/-- ID of format FR: two floating-point sources. -/
def State.decodeFpPair (s : State) (fs ft : Reg) : State :=
  s.decoded (s.readFp fs) (s.readFp ft) s.ifid.ir.imm

/-- ID of an opcode that reads no register: `JUMP`, `EOP` and the unknown opcode. -/
def State.decodeNone (s : State) (imm : Word) : State := s.decoded undef undef imm

/-! ## EX -/

/-- EX for every opcode but `NOP`: `EXMEM' <- {ir, alu_output, b: IDEX.b, cond}`
(45_pipeline_stages.md R162). -/
def State.executed (s : State) (alu cond : Word) : State :=
  s.setExmem { bubble with ir := s.idex.ir, aluOutput := alu, b := s.idex.b, cond := cond }

/-- EX for `NOP`: `alu_output = 0`, nothing else (45_pipeline_stages.md R162). -/
def State.executedNop (s : State) : State :=
  s.setExmem { bubble with ir := s.idex.ir, aluOutput := 0#32 }

/-- The effective address of a load or store, `(A + imm) mod 2^32` (41_load_store.md R114). -/
def effectiveAddress (a imm : Word) : Word := a + imm

/-- The target of a branch or jump, `(npc + imm) mod 2^32` (42_branch_jump.md R127). -/
def branchAddress (npc imm : Word) : Word := npc + imm

/-! ## MEM -/

/-- MEM for an opcode that is no load and no store: `alu_output` is copied through
(45_pipeline_stages.md R158). -/
def State.passAlu (s : State) : State :=
  s.setMemwb { bubble with ir := s.exmem.ir, aluOutput := s.exmem.aluOutput }

/-- MEM for a load: the word into `lmd` and nothing else (45_pipeline_stages.md R158). -/
def State.loaded4 (s : State) (w : Word) : State :=
  s.setMemwb { bubble with ir := s.exmem.ir, lmd := w }

/-- MEM for a store: the record alone (45_pipeline_stages.md R158). -/
def State.stored4 (s : State) : State := s.setMemwb { bubble with ir := s.exmem.ir }

/-- The access of a load, at the address in `EXMEM.alu_output`; out of range it is outside the rules
(20_memory.md R62, R66). -/
def State.loadAccess (s : State) : Result :=
  if inDataMemory s.cfg s.exmem.aluOutput then
    .next (s.loaded4 (s.dmem.readWord s.exmem.aluOutput.toNat))
  else .fault (.dataAddressOutOfRange s.exmem.aluOutput)

/-- The access of a store, of `EXMEM.b` at the address in `EXMEM.alu_output`
(20_memory.md R63, R66). -/
def State.storeAccess (s : State) : Result :=
  if inDataMemory s.cfg s.exmem.aluOutput then
    .next (s.setDmem (s.dmem.writeWord s.exmem.aluOutput.toNat s.exmem.b)).stored4
  else .fault (.dataAddressOutOfRange s.exmem.aluOutput)

end Sys2Proof.Machine
end

