-- ==== Sys2Proof/Machine/Flags.lean ====
section
/-! DEFINITION. The hardware has no flags register and no condition codes (10_state.md R44). The
nearest thing is the latch field `cond`, written by EX for a branch or jump; it and the branch
predicates are here. -/

namespace Sys2Proof.Machine

/-- `BEQZ`: zero (42_branch_jump.md R120). -/
def isZero (a : Word) : Bool := a == 0#32

/-- `BNEZ`: not zero (R121). -/
def isNonzero (a : Word) : Bool := a != 0#32

/-- `BLTZ`: negative as a signed number (R122). -/
def isNegative (a : Word) : Bool := a.msb

/-- `BGTZ`: positive as a signed number (R123). -/
def isPositive (a : Word) : Bool := !a.msb && a != 0#32

/-- `BLEZ`: zero or negative as a signed number (R124). -/
def isNonpositive (a : Word) : Bool := a.msb || a == 0#32

/-- `BGEZ`: zero or positive as a signed number (R125). -/
def isNonnegative (a : Word) : Bool := !a.msb

/-- `cond`: 1 taken, 0 not taken (10_state.md R44, 45_pipeline_stages.md R163). -/
def condWord (taken : Bool) : Word := if taken then 1#32 else 0#32

/-- EX of a branch or jump: the target into `alu_output`, `cond`, and the pending redirect set or
cleared (42_branch_jump.md R127, 45_pipeline_stages.md R163). -/
def State.resolveBranch (s : State) (taken : Bool) : State :=
  let target := branchAddress s.idex.npc s.idex.imm
  let resolved := if taken then s.branchTo target else s.clearBranch
  resolved.executed target (condWord taken)

end Sys2Proof.Machine
end

