-- ==== Sys2Proof/Machine/Branch.lean ====
section
/-! DEFINITION. Branches and the jump: `BEQZ BNEZ BLTZ BGTZ BLEZ BGEZ JUMP` (42_branch_jump.md R120 to
R128). IF's redirect and the two bubbles are in Pipeline.lean and Hazard.lean. -/

namespace Sys2Proof.Machine

/-- The common semantics of the six conditional branches (R127). -/
def conditionalBranch (predicate : Word → Bool) (rs : Reg) (imm : Word) (s : State) : Result :=
  match s.stage with
  | .IF => .next s.countFetch
  | .ID => .next (s.decodeIntImm rs imm)
  | .EX => .next (s.resolveBranch (predicate s.idex.a))
  | .MEM => .next s.passAlu
  | .WB => .next s

/-- `BEQZ Rs label` (R120). -/
def execBeqz (rs : Reg) (imm : Word) (s : State) : Result := conditionalBranch isZero rs imm s

/-- `BNEZ Rs label` (R121). -/
def execBnez (rs : Reg) (imm : Word) (s : State) : Result := conditionalBranch isNonzero rs imm s

/-- `BLTZ Rs label` (R122). -/
def execBltz (rs : Reg) (imm : Word) (s : State) : Result := conditionalBranch isNegative rs imm s

/-- `BGTZ Rs label` (R123). -/
def execBgtz (rs : Reg) (imm : Word) (s : State) : Result := conditionalBranch isPositive rs imm s

/-- `BLEZ Rs label` (R124). -/
def execBlez (rs : Reg) (imm : Word) (s : State) : Result :=
  conditionalBranch isNonpositive rs imm s

/-- `BGEZ Rs label` (R125). -/
def execBgez (rs : Reg) (imm : Word) (s : State) : Result :=
  conditionalBranch isNonnegative rs imm s

/-- `JUMP label` (R126): reads no register and is always taken. -/
def execJump (imm : Word) (s : State) : Result :=
  match s.stage with
  | .IF => .next s.countFetch
  | .ID => .next (s.decodeNone imm)
  | .EX => .next (s.resolveBranch true)
  | .MEM => .next s.passAlu
  | .WB => .next s

end Sys2Proof.Machine
end

