-- ==== Sys2Proof/Machine/Float.lean ====
section
/-! DEFINITION. `FADD`, `FSUB`, `FMUL` and `FDIV` (43_fp_arith.md R139): the default numerics, IEEE 754
binary32 with rounding to nearest, ties to even, on 32-bit patterns, or the functions a configuration
gives. -/

namespace Sys2Proof.Machine

/-- The sign bit. -/
def signBit (w : Word) : Bool := w.msb

/-- The 8-bit exponent field, bias 127. -/
def exponentField (w : Word) : Nat := (w.extractLsb' 23 8).toNat

/-- The 23-bit fraction field. -/
def fractionField (w : Word) : Nat := (w.extractLsb' 0 23).toNat

def isNaN (w : Word) : Bool := exponentField w == 255 && fractionField w != 0

def isInfinite (w : Word) : Bool := exponentField w == 255 && fractionField w == 0

/-- The magnitude of a finite pattern in units of 2^-149, an exact natural number; subnormals are
supported. -/
def magnitude (w : Word) : Nat :=
  if exponentField w = 0 then fractionField w
  else (2 ^ 23 + fractionField w) * 2 ^ (exponentField w - 1)

/-- The value of a finite pattern in units of 2^-149. -/
def exactValue (w : Word) : Int := if signBit w then -(magnitude w : Int) else (magnitude w : Int)

/-- `n / d` rounded to the nearest integer, ties to even. -/
def roundHalfEven (n d : Nat) : Nat :=
  let q := n / d
  let r := n % d
  if 2 * r < d then q else if d < 2 * r then q + 1 else q + q % 2

/-- The bits of an infinity without its sign. -/
def infinityBits : Nat := 0x7F800000

/-- The exponent and fraction bits of the binary32 number nearest to `n / d` units of 2^-149, ties to
even; a magnitude that rounds past the largest finite number is an infinity. With `e` the number of
positions the quotient exceeds 24 bits, the rounded significand of at most 24 bits plus `e * 2^23` is
the bit pattern. -/
def roundMagnitude (n d : Nat) : Nat :=
  let e := Nat.log2 (n / d) - 23
  min (roundHalfEven n (d * 2 ^ e) + e * 2 ^ 23) infinityBits

/-- A pattern from its sign and its lower 31 bits. -/
def withSign (neg : Bool) (bits : Nat) : Word :=
  BitVec.ofNat 32 ((if neg then 2 ^ 31 else 0) + bits)

/-- Some NaN pattern: exponent `0xFF` and a non-zero fraction. Which one is a FREE VALUE
(43_fp_arith.md R139, U10; log 7): sign and fraction are those of the free bits, and a fraction of
zero becomes 1. -/
def nanResult (op : FpOp) (a b : Word) : Word :=
  let c := Config.nanBits op a b
  let fraction := if fractionField c = 0 then 1 else fractionField c
  withSign (signBit c) (infinityBits + fraction)

def infinity (neg : Bool) : Word := withSign neg infinityBits

def negate (w : Word) : Word := w ^^^ 0x80000000#32

/-- The sum of two finite numbers. An exact zero is `-0` only when both operands are negative zeros
(log 6). -/
def finiteSum (a b : Word) : Word :=
  let v := exactValue a + exactValue b
  if v = 0 then withSign (signBit a && signBit b) 0
  else withSign (decide (v < 0)) (roundMagnitude v.natAbs 1)

/-- IEEE 754 addition; `op` only names the operation to the free NaN pattern. -/
def ieeeSum (op : FpOp) (a b x y : Word) : Word :=
  if isNaN x || isNaN y then nanResult op a b
  else if isInfinite x then
    if isInfinite y && signBit x != signBit y then nanResult op a b else infinity (signBit x)
  else if isInfinite y then infinity (signBit y)
  else finiteSum x y

def ieeeAdd (a b : Word) : Word := ieeeSum .add a b a b

/-- The first source minus the second (43_fp_arith.md R136). -/
def ieeeSub (a b : Word) : Word := ieeeSum .sub a b a (negate b)

def ieeeMul (a b : Word) : Word :=
  let neg := signBit a != signBit b
  if isNaN a || isNaN b then nanResult .mul a b
  else if isInfinite a || isInfinite b then
    if magnitude a = 0 || magnitude b = 0 then nanResult .mul a b else infinity neg
  else withSign neg (roundMagnitude (magnitude a * magnitude b) (2 ^ 149))

/-- The first source divided by the second; a finite non-zero number divided by zero is a signed
infinity (43_fp_arith.md R138). -/
def ieeeDiv (a b : Word) : Word :=
  let neg := signBit a != signBit b
  if isNaN a || isNaN b then nanResult .div a b
  else if isInfinite a then
    if isInfinite b then nanResult .div a b else infinity neg
  else if isInfinite b then withSign neg 0
  else if magnitude b = 0 then
    if magnitude a = 0 then nanResult .div a b else infinity neg
  else withSign neg (roundMagnitude (magnitude a * 2 ^ 149) (magnitude b))

/-- The default numerics. -/
def ieee : FpOp → Word → Word → Word
  | .add => ieeeAdd
  | .sub => ieeeSub
  | .mul => ieeeMul
  | .div => ieeeDiv

/-! ## Numerics given as an argument (00_scope.md R8) -/

/-- The value that a list of entries gives an operation on two patterns, if it gives one. -/
def givenValue (entries : List FpEntry) (op : FpOp) (a b : Word) : Option Word :=
  (entries.find? fun e => e.op == op && e.a == a && e.b == b).map FpEntry.result

/-- All 2^32 patterns. -/
def allWords : List Word := (List.range (2 ^ 32)).map (BitVec.ofNat 32)

/-- Any four functions, total from two patterns to one, as the argument of a configuration. -/
def FpNumerics.ofFunction (f : FpOp → Word → Word → Word) : FpNumerics :=
  .given ([FpOp.add, .sub, .mul, .div].flatMap fun op => allWords.flatMap fun a =>
    allWords.map fun b => ⟨op, a, b, f op a b⟩)

/-- `FADD`, `FSUB`, `FMUL`, `FDIV` of a configuration (43_fp_arith.md R139). -/
def fpCompute (cfg : Config) (op : FpOp) (a b : Word) : Word :=
  match cfg.numerics with
  | .ieee754 => ieee op a b
  | .given entries => (givenValue entries op a b).getD (ieee op a b)

end Sys2Proof.Machine
end

