-- ==== Sys2Proof/Machine/Special.lean ====
section
/-! DEFINITION. `EOP`, `NOP` and the unknown opcode (44_eop_nop_unknown.md R145 to R147), and the guard of
the opcodes that exist only with `HAS_FP` (30_encoding.md R89). -/

namespace Sys2Proof.Machine

/-- `EOP` (R145): IF counts it in `fetched_count` only and sets `eop_fetched`; the ALU value is
`0xFFFFFFFF`; WB halts unless a branch is pending. -/
def execEop (s : State) : Result :=
  match s.stage with
  | .IF => .next s.countEop
  | .ID => .next (s.decodeNone s.ifid.ir.imm)
  | .EX => .next (s.executed undef undef)
  | .MEM => .next s.passAlu
  | .WB => .next s.haltUnlessPending

/-- `NOP` (R146): a fetched one is counted as an instruction; `alu_output` is 0. -/
def execNop (s : State) : Result :=
  match s.stage with
  | .IF => .next s.countFetch
  | .ID => .next s.decodedNop
  | .EX => .next s.executedNop
  | .MEM => .next s.passAlu
  | .WB => .next s

/-- The unknown opcode (R147): no register read, ALU value `0xFFFFFFFF`, no memory access, no write,
counted as an instruction. -/
def execUnknown (s : State) : Result :=
  match s.stage with
  | .IF => .next s.countFetch
  | .ID => .next (s.decodeNone s.ifid.ir.imm)
  | .EX => .next (s.executed undef undef)
  | .MEM => .next s.passAlu
  | .WB => .next s

/-- A floating-point opcode has its meaning with `HAS_FP`; without it its number is an unknown opcode
(30_encoding.md R89; log 16). -/
def withFp (meaning : State → Result) (s : State) : Result :=
  if s.cfg.hasFp then meaning s else execUnknown s

end Sys2Proof.Machine
end

