-- ==== Sys2Proof/Machine/FpArith.lean ====
section
/-! DEFINITION. Floating-point arithmetic: `ADDS SUBS MULTS DIVS` (43_fp_arith.md R135 to R139), only with
`HAS_FP`. The unit each holds in EX is in Units.lean. -/

namespace Sys2Proof.Machine

/-- Format FR: two floating-point sources, one floating-point destination. -/
def fpRegReg (op : FpOp) (fd fs ft : Reg) (s : State) : Result :=
  match s.stage with
  | .IF => .next s.countFetch
  | .ID => .next (s.decodeFpPair fs ft)
  | .EX => .next (s.executed (fpCompute s.cfg op s.idex.a s.idex.b) undef)
  | .MEM => .next s.passAlu
  | .WB => .next (s.writeFp fd s.memwb.aluOutput)

/-- `ADDS Fd Fs Ft` (R135). -/
def execAdds (fd fs ft : Reg) (s : State) : Result := withFp (fpRegReg .add fd fs ft) s

/-- `SUBS Fd Fs Ft` (R136): the first source minus the second. -/
def execSubs (fd fs ft : Reg) (s : State) : Result := withFp (fpRegReg .sub fd fs ft) s

/-- `MULTS Fd Fs Ft` (R137). -/
def execMults (fd fs ft : Reg) (s : State) : Result := withFp (fpRegReg .mul fd fs ft) s

/-- `DIVS Fd Fs Ft` (R138): the first source divided by the second; no trap. -/
def execDivs (fd fs ft : Reg) (s : State) : Result := withFp (fpRegReg .div fd fs ft) s

end Sys2Proof.Machine
end

