-- ==== Sys2Proof/Machine/IntAlu.lean ====
section
/-! DEFINITION. Integer arithmetic and logic: `ADD ADDI SUB SUBI XOR` (40_integer_alu.md R100 to R105). -/

namespace Sys2Proof.Machine

/-- Format R: two integer sources, one integer destination (R100, R102, R104). -/
def intRegReg (f : Word → Word → Word) (rd rs rt : Reg) (s : State) : Result :=
  match s.stage with
  | .IF => .next s.countFetch
  | .ID => .next (s.decodeIntPair rs rt)
  | .EX => .next (s.executed (f s.idex.a s.idex.b) undef)
  | .MEM => .next s.passAlu
  | .WB => .next (s.writeGp rd s.memwb.aluOutput)

/-- Format I: one integer source and the immediate, one integer destination (R101, R103). -/
def intRegImm (f : Word → Word → Word) (rd rs : Reg) (imm : Word) (s : State) : Result :=
  match s.stage with
  | .IF => .next s.countFetch
  | .ID => .next (s.decodeIntImm rs imm)
  | .EX => .next (s.executed (f s.idex.a s.idex.imm) undef)
  | .MEM => .next s.passAlu
  | .WB => .next (s.writeGp rd s.memwb.aluOutput)

/-- `ADD Rd Rs Rt` (R100): the sum modulo 2^32. -/
def execAdd (rd rs rt : Reg) (s : State) : Result := intRegReg (fun a b => a + b) rd rs rt s

/-- `ADDI Rd Rs imm` (R101): the sum modulo 2^32. -/
def execAddi (rd rs : Reg) (imm : Word) (s : State) : Result :=
  intRegImm (fun a i => a + i) rd rs imm s

/-- `SUB Rd Rs Rt` (R102): the first source is the minuend. -/
def execSub (rd rs rt : Reg) (s : State) : Result := intRegReg (fun a b => a - b) rd rs rt s

/-- `SUBI Rd Rs imm` (R103): the immediate is subtracted as it stands. -/
def execSubi (rd rs : Reg) (imm : Word) (s : State) : Result :=
  intRegImm (fun a i => a - i) rd rs imm s

/-- `XOR Rd Rs Rt` (R104). -/
def execXor (rd rs rt : Reg) (s : State) : Result := intRegReg (fun a b => a ^^^ b) rd rs rt s

end Sys2Proof.Machine
end

