-- ==== Sys2Proof/Machine/LoadStore.lean ====
section
/-! DEFINITION. Loads and stores: `LW SW LWS SWS` (41_load_store.md R110 to R114). The wait the MEM stage
inserts first is in Pipeline.lean (45_pipeline_stages.md R157, R159). -/

namespace Sys2Proof.Machine

/-- A load: base and offset in ID, the address in EX, the word into `lmd` in MEM; `write` is what WB
does with it. -/
def load (write : State → State) (rs : Reg) (imm : Word) (s : State) : Result :=
  match s.stage with
  | .IF => .next s.countFetch
  | .ID => .next (s.decodeIntImm rs imm)
  | .EX => .next (s.executed (effectiveAddress s.idex.a s.idex.imm) undef)
  | .MEM => s.loadAccess
  | .WB => .next (write s)

/-- A store: `read` is what ID does; the address in EX, the access in MEM, nothing in WB. -/
def store (read : State → State) (s : State) : Result :=
  match s.stage with
  | .IF => .next s.countFetch
  | .ID => .next (read s)
  | .EX => .next (s.executed (effectiveAddress s.idex.a s.idex.imm) undef)
  | .MEM => s.storeAccess
  | .WB => .next s

/-- `LW Rd imm(Rs)` (R110). -/
def execLw (rd rs : Reg) (imm : Word) (s : State) : Result :=
  load (fun t => t.writeGp rd t.memwb.lmd) rs imm s

/-- `SW Rs imm(Rt)` (R111): `rs` is the data register, `rt` the base. -/
def execSw (rs rt : Reg) (imm : Word) (s : State) : Result :=
  store (fun t => t.decodeStoreInt rs rt imm) s

/-- `LWS Fd imm(Rs)` (R112): the word moves to `fp[d]` unchanged. -/
def execLws (fd rs : Reg) (imm : Word) (s : State) : Result :=
  withFp (load (fun t => t.writeFp fd t.memwb.lmd) rs imm) s

/-- `SWS Fs imm(Rt)` (R113): `fs` is the data register, `rt` the integer base. -/
def execSws (fs rt : Reg) (imm : Word) (s : State) : Result :=
  withFp (store fun t => t.decodeStoreFp fs rt imm) s

end Sys2Proof.Machine
end

