-- ==== Sys2Proof/Machine/Dispatch.lean ====
section
/-! DEFINITION. One arm for each instruction: what it contributes to the stage `s.stage` (the template
at the head of 40_integer_alu.md; log 2). -/

namespace Sys2Proof.Machine

/-- The contribution of instruction `i` to the stage that `s.stage` names. -/
def exec (i : Instr) (s : State) : Host.Outcome State Fault Refusal :=
  match i with
  | .lw rd rs imm => Sys2Proof.Machine.execLw rd rs imm s
  | .sw rs rt imm => Sys2Proof.Machine.execSw rs rt imm s
  | .add rd rs rt => Sys2Proof.Machine.execAdd rd rs rt s
  | .addi rd rs imm => Sys2Proof.Machine.execAddi rd rs imm s
  | .sub rd rs rt => Sys2Proof.Machine.execSub rd rs rt s
  | .subi rd rs imm => Sys2Proof.Machine.execSubi rd rs imm s
  | .xor rd rs rt => Sys2Proof.Machine.execXor rd rs rt s
  | .beqz rs imm => Sys2Proof.Machine.execBeqz rs imm s
  | .bnez rs imm => Sys2Proof.Machine.execBnez rs imm s
  | .bltz rs imm => Sys2Proof.Machine.execBltz rs imm s
  | .bgtz rs imm => Sys2Proof.Machine.execBgtz rs imm s
  | .blez rs imm => Sys2Proof.Machine.execBlez rs imm s
  | .bgez rs imm => Sys2Proof.Machine.execBgez rs imm s
  | .jump imm => Sys2Proof.Machine.execJump imm s
  | .eop => Sys2Proof.Machine.execEop s
  | .nop => Sys2Proof.Machine.execNop s
  | .lws fd rs imm => Sys2Proof.Machine.execLws fd rs imm s
  | .sws fs rt imm => Sys2Proof.Machine.execSws fs rt imm s
  | .adds fd fs ft => Sys2Proof.Machine.execAdds fd fs ft s
  | .subs fd fs ft => Sys2Proof.Machine.execSubs fd fs ft s
  | .mults fd fs ft => Sys2Proof.Machine.execMults fd fs ft s
  | .divs fd fs ft => Sys2Proof.Machine.execDivs fd fs ft s

end Sys2Proof.Machine
end

