-- ==== Sys2Proof/Machine/Hazard.lean ====
section
/-! DEFINITION. The hazard-detection unit and the stall counter (46_hazard_unit.md R200 to R213). -/

namespace Sys2Proof.Machine

/-! ## The detection function: it reads only the four instruction records (R200) -/

/-- `srcs(C)`: the registers the record reads in ID, as (file, index) with the index a 32-bit number
(R201). -/
def srcs (hasFp : Bool) (r : Record) : List (RegFile × Word) :=
  match r.op hasFp with
  | some .ADD | some .SUB | some .XOR => [(.INT, r.src1), (.INT, r.src2)]
  | some .ADDI | some .SUBI | some .LW | some .LWS => [(.INT, r.src1)]
  | some .BEQZ | some .BNEZ | some .BLTZ | some .BGTZ | some .BLEZ | some .BGEZ =>
    [(.INT, r.src1)]
  | some .SW => [(.INT, r.src1), (.INT, r.src2)]
  | some .SWS => [(.FP, r.src1), (.INT, r.src2)]
  | some .ADDS | some .SUBS | some .MULTS | some .DIVS => [(.FP, r.src1), (.FP, r.src2)]
  | some .JUMP | some .EOP | some .NOP | none => []

/-- `destfile(P)`: the file the `dest` field is taken to be in, known opcode or not (R202). -/
def destFile (hasFp : Bool) (r : Record) : RegFile :=
  match r.op hasFp with
  | some .LWS | some .ADDS | some .SUBS | some .MULTS | some .DIVS => .FP
  | some .LW | some .SW | some .ADD | some .ADDI | some .SUB | some .SUBI | some .XOR
  | some .BEQZ | some .BNEZ | some .BLTZ | some .BGTZ | some .BLEZ | some .BGEZ | some .JUMP
  | some .EOP | some .NOP | some .SWS | none => .INT

/-- `P` matches `C`: `(destfile(P), P.dest)` is a member of `srcs(C)` (R202). -/
def matchesSrc (hasFp : Bool) (p c : Record) : Bool :=
  (srcs hasFp c).contains (destFile hasFp p, p.dest)

/-- The producers of row 1, which the table names by inclusion (R203). -/
def rowOneProducer (hasFp : Bool) (p : Record) : Bool :=
  match p.op hasFp with
  | some .ADD | some .ADDI | some .SUB | some .SUBI | some .XOR | some .LW
  | some .LWS | some .ADDS | some .SUBS | some .MULTS | some .DIVS => true
  | some .SW | some .BEQZ | some .BNEZ | some .BLTZ | some .BGTZ | some .BLEZ | some .BGEZ
  | some .JUMP | some .EOP | some .NOP | some .SWS | none => false

/-- The producers of row 3, which the table names by exclusion (R203, R212). -/
def rowThreeProducer (hasFp : Bool) (p : Record) : Bool :=
  match p.op hasFp with
  | some .SW | some .BNEZ | some .NOP | some .SWS => false
  | some .LW | some .ADD | some .ADDI | some .SUB | some .SUBI | some .XOR
  | some .BEQZ | some .BLTZ | some .BGTZ | some .BLEZ | some .BGEZ | some .JUMP | some .EOP
  | some .LWS | some .ADDS | some .SUBS | some .MULTS | some .DIVS | none => true

/-- The producers of row 4: those of row 3 but for `BLTZ` (R203, R212). -/
def rowFourProducer (hasFp : Bool) (p : Record) : Bool :=
  rowThreeProducer hasFp p && p.op hasFp != some .BLTZ

/-- `raw(C, IDEX, EXMEM, MEMWB)`: the first row that applies, else 0 (R203, R204). Row 2 is the case
of row 1 with a store as the consumer. -/
def raw (hasFp : Bool) (c idex exmem memwb : Record) : Nat :=
  if rowOneProducer hasFp idex && matchesSrc hasFp idex c then 2
  else if rowThreeProducer hasFp exmem && matchesSrc hasFp exmem c then 1
  else if rowFourProducer hasFp memwb && matchesSrc hasFp memwb c then 1
  else 0

/-- `is_branch(C)` (R205). -/
def isBranch (hasFp : Bool) (r : Record) : Bool :=
  match r.op hasFp with
  | some .BEQZ | some .BNEZ | some .BLTZ | some .BGTZ | some .BLEZ | some .BGEZ
  | some .JUMP => true
  | some .LW | some .SW | some .ADD | some .ADDI | some .SUB | some .SUBI | some .XOR
  | some .EOP | some .NOP | some .LWS | some .SWS | some .ADDS | some .SUBS | some .MULTS
  | some .DIVS | none => false

/-! ## The stall state machine -/

/-- A branch in `IFID` starts a BRANCH stall of 2 (R205, R206, R208). -/
def startBranchStall (c : Record) (s : State) : State :=
  if isBranch s.cfg.hasFp c then s.setStall .BRANCH 2 2 else s

/-- The setting of a stall, when none is in progress (R206). -/
def setHazardStall (c idex exmem memwb : Record) (s : State) : State :=
  let n := raw s.cfg.hasFp c idex exmem memwb
  if 0 < n then s.setStall .RAW n n else startBranchStall c s

/-- The release of a stall whose count has run out, with the fresh branch stall (R206, R207,
R208). `stall_rem` is 0 here. -/
def releaseStall (c : Record) (s : State) : State :=
  startBranchStall c ((s.addStalls s.stallSize).setStall .NONE 0 0)

/-- `HazardHandler` (R206, R209): `start` is the state at the start of the cycle, whose latches it
reads (R200); `s` is the state as the later stages have left it. -/
def hazardHandler (start : State) (frozen : Bool) (s : State) : State :=
  if s.stallKind = .NONE then
    setHazardStall start.ifid.ir start.idex.ir start.exmem.ir start.memwb.ir s
  else if s.stallRem = 0 ∧ frozen = false then releaseStall start.ifid.ir s
  else s

end Sys2Proof.Machine
end

