-- ==== Sys2Proof/Machine/Units.lean ====
section
/-! DEFINITION. The functional-unit latency tracker (47_functional_units.md R220 to R230). -/

namespace Sys2Proof.Machine

/-- The class of a record's opcode; `none` needs no unit (R221, R222). Without `HAS_FP` there is no
unit table and no record needs one (R227). -/
def unitClass (hasFp : Bool) (r : Record) : Option UnitKind :=
  if hasFp then
    match r.op hasFp with
    | some .ADD | some .ADDI | some .SUB | some .SUBI | some .XOR => some .INTEGER
    | some .LW | some .SW | some .LWS | some .SWS => some .INTEGER
    | some .BEQZ | some .BNEZ | some .BLTZ | some .BGTZ | some .BLEZ | some .BGEZ
    | some .JUMP => some .INTEGER
    | some .ADDS | some .SUBS => some .ADDER
    | some .MULTS => some .MULTIPLIER
    | some .DIVS => some .DIVIDER
    | some .NOP | some .EOP | none => none
  else none

/-- `get_free_unit`: the least index of an idle unit of the kind (R223). -/
def freeUnit (need : UnitKind) (us : List FunctionalUnit) : Option Nat :=
  us.findIdx? fun u => u.kind == need && u.busy == 0

/-- The unit at an index takes a record for its whole latency (R223). -/
def occupy (us : List FunctionalUnit) (j : Nat) (r : Record) : List FunctionalUnit :=
  us.modify j fun u => { u with busy := u.latency, instruction := r, lastAccepted := r }

/-- The allocation half of `AcquireAndCheck` (R223): an instruction that holds no unit takes the first
free one of its class, if there is one. -/
def acquireUnit (s : State) : State :=
  match unitClass s.cfg.hasFp s.idex.ir, s.exUnit with
  | some need, none =>
    match freeUnit need s.units with
    | some j => s.setUnits (occupy s.units j s.idex.ir) (some j)
    | none => s
  | some _, some _ => s
  | none, _ => s

/-- The remaining count of a unit; an index outside the table counts as 0 (log 22). -/
def busyOf (us : List FunctionalUnit) (j : Nat) : Nat :=
  match us[j]? with
  | some u => u.busy
  | none => 0

/-- `done`, after the allocation: no unit is needed, or the unit held counts 1 or less (R223, R224,
45_pipeline_stages.md R161). -/
def exDone (s : State) : Bool :=
  match unitClass s.cfg.hasFp s.idex.ir with
  | none => true
  | some _ =>
    match s.exUnit with
    | none => false
    | some j => decide (busyOf s.units j ≤ 1)

/-- The instruction leaves EX and holds no unit any more; `busy` is not cleared: the end of the
cycle takes it to 0 and puts `NOP_REC` back (R224; `FunctionalUnit.tick`). -/
def releaseUnit (s : State) : State :=
  match unitClass s.cfg.hasFp s.idex.ir with
  | none => s
  | some _ => s.setUnits s.units none

end Sys2Proof.Machine
end

