-- ==== Sys2Proof/Machine/Pipeline.lean ====
section
/-! DEFINITION. The cycle and the five stages (45_pipeline_stages.md R150 to R172).

The stages run in the order WB, MEM, EX, ID, IF, and each writes its exit latch in place. Since every
stage runs after the stage behind its exit latch has read it, every stage reads the start-of-cycle
value of its entrance latch, as R151 demands (log 3). The hazard unit gets the start-of-cycle state,
because it reads latches that later stages have already written. -/

namespace Sys2Proof.Machine

/-- What a record contributes to stage `g`: its instruction's meaning, or the unknown opcode's (R147).
A record whose used register field names no register is refused (30_encoding.md R87; log 10). -/
def execRecord (g : Stage) (r : Record) (s : State) : Result :=
  match decodeRecord s.cfg.hasFp r with
  | .instr i => exec i (s.atStage g)
  | .unknown => execUnknown (s.atStage g)
  | .badRegister _ _ => .refused .registerOutOfRange

/-! ## WB -/

/-- WB: the register write and the halt (R155, R156). -/
def wbStage (s : State) : Result := execRecord .WB s.memwb.ir s

/-! ## MEM -/

/-- `is_mem` (R157). -/
def isMem (hasFp : Bool) (r : Record) : Bool :=
  match r.op hasFp with
  | some .LW | some .SW | some .LWS | some .SWS => true
  | some .ADD | some .ADDI | some .SUB | some .SUBI | some .XOR | some .BEQZ | some .BNEZ
  | some .BLTZ | some .BGTZ | some .BLEZ | some .BGEZ | some .JUMP | some .EOP | some .NOP
  | some .ADDS | some .SUBS | some .MULTS | some .DIVS | none => false

/-- The record in `EXMEM` is subject to the latency wait (R157). -/
def memTimed (s : State) : Bool := decide (0 < s.cfg.dmemLatency) && isMem s.cfg.hasFp s.exmem.ir

/-- The countdown as the wait test sees it: set to the latency on first entry (R157). -/
def memCountdown (s : State) : Nat := if s.memStall then s.memCnt else s.cfg.dmemLatency

/-- `mem_wait` (R157). -/
def memWaits (s : State) : Bool := memTimed s && decide (0 < memCountdown s)

/-- A memory wait cycle: no access, a bubble into `MEMWB`, one stall counted (R157, R159). -/
def memWaitCycle (s : State) : State :=
  ((s.setMemStall true (memCountdown s - 1)).setMemwb bubble).addStalls 1

/-- A memory instruction whose wait is over clears the memory stall (R157). -/
def memProceed (s : State) : State :=
  if memTimed s then s.setMemStall false (memCountdown s) else s

/-- MEM when it does not wait: the access (R158). -/
def memStage (s : State) : Result := execRecord .MEM s.exmem.ir (memProceed s)

/-! ## EX -/

/-- An EX wait cycle: `EXBUBBLE` into `EXMEM`, one stall counted (R164). -/
def exWaitCycle (s : State) : State := (s.setExmem exBubble).addStalls 1

/-- EX when it is done: the unit is given back, the result written, a branch resolved (R161 to
R163). -/
def exStage (s : State) : Result := execRecord .EX s.idex.ir (releaseUnit s)

/-! ## ID -/

/-- ID in an unfrozen cycle, after the hazard handler: a bubble in a RAW stall, else the operand read
(R165, R166). -/
def idStage (s : State) : Result :=
  if s.stallKind = .RAW then .next (s.setIdex bubble).countDownStall
  else execRecord .ID s.ifid.ir s

/-! ## IF -/

/-- The redirect of a taken branch, consumed by a cycle that fetches (R168). -/
def redirect (s : State) : State :=
  if s.branchPending then (s.setPc s.branchTarget).clearBranch else s

/-- `(pc - base) >> 2`, the subtraction modulo 2^32 (20_memory.md R69). -/
def fetchIndex (s : State) : Nat := (s.pc - s.base).toNat / 4

/-- The record IF fetches at `pc`; a fetch outside the program is outside the rules
(20_memory.md R69, R70). -/
def fetchRecord (s : State) : Except Fault Record :=
  if (s.pc - s.base).toNat % 4 ≠ 0 then .error (.fetchMisaligned s.pc)
  else
    match s.imem[fetchIndex s]? with
    | some r => .ok r
    | none => .error (.fetchOutsideProgram s.pc)

/-- `base + 4 * (index + 1)`, modulo 2^32 (R168). -/
def nextPc (s : State) : Word := s.base + 4#32 * BitVec.ofNat 32 (fetchIndex s + 1)

/-- `pc` and `IFID` after the fetch of a record (R168). -/
def latchFetch (r : Record) (s : State) : State :=
  (s.setPc (nextPc s)).setIfid { bubble with ir := r, npc := nextPc s }

/-- `Fetch()` at the redirected `pc`: the record into `IFID`, and its contribution to IF, the counters
(R168, R169). -/
def fetchAt (s : State) : Result :=
  match fetchRecord s with
  | .error f => .fault f
  | .ok r => execRecord .IF r (latchFetch r s)

/-- IF in an unfrozen cycle, after ID (R167, R170). -/
def ifStage (s : State) : Result :=
  if s.stallKind = .BRANCH then .next (s.setIfid bubble).countDownStall
  else if s.stallKind = .RAW then .next s
  else if s.eopFetched then .next (s.setIfid bubble)
  else fetchAt (redirect s)

/-! ## The cycle -/

/-- The end of a frozen cycle: the hazard handler still runs, ID and IF do nothing (R165, R167, R172;
46_hazard_unit.md R209). -/
def frozenEnd (start s : State) : Result := .next (hazardHandler start true s).endCycle

/-- ID and IF of an unfrozen cycle, and its end (R165 to R171). -/
def frontEnd (start s : State) : Result :=
  andThen (idStage (hazardHandler start false s)) fun t =>
    andThen (ifStage t) fun u => .next u.endCycle

/-- EX, ID and IF of a cycle that is no memory wait cycle (R161 to R171). -/
def exAndFront (start s : State) : Result :=
  let acquired := acquireUnit s
  if exDone acquired then andThen (exStage acquired) (frontEnd start)
  else frozenEnd start (exWaitCycle acquired)

/-- MEM and everything after it (R157 to R171). -/
def memAndFront (start s : State) : Result :=
  if memWaits s then frozenEnd start (memWaitCycle s)
  else andThen (memStage s) (exAndFront start)

/-- `Cycle()` (R150): WB, MEM, EX, ID, IF, end of cycle. -/
def cycleOf (start : State) : Result := andThen (wbStage start) (memAndFront start)

/-- One iteration of the cycle driver (R153; log 1): a machine with no program is refused, a halted
machine performs no cycle and stays as it is, any other performs `Cycle()`. -/
def driverStep (s : State) : Result :=
  if s.loaded = false then .refused .runBeforeLoad
  else if s.halted then .next s
  else cycleOf s

end Sys2Proof.Machine
end

