-- ==== Sys2Proof/WellFormed.lean ====
section
/-! DEFINITION. What a well-formed instruction, record and program are (30_encoding.md R86, R87).
Conditions 1 to 5 of R87 are checks here, condition 5 over the paths of the program's control flow
(log 28); condition 6 speaks of the addresses a run computes, and stands with the reading of
condition 5 for one run in Safety.lean. -/

namespace Sys2Proof

/-- Which fields an opcode uses: the register fields with the file they index, and the immediate. -/
structure FieldRoles where
  dest : Option RegFile
  src1 : Option RegFile
  src2 : Option RegFile
  imm : Bool
  deriving DecidableEq, Repr

/-- The table of 30_encoding.md R83. -/
def Opcode.roles : Opcode → FieldRoles
  | .ADD | .SUB | .XOR => ⟨some .INT, some .INT, some .INT, false⟩
  | .ADDI | .SUBI => ⟨some .INT, some .INT, none, true⟩
  | .LW => ⟨some .INT, some .INT, none, true⟩
  | .LWS => ⟨some .FP, some .INT, none, true⟩
  | .SW => ⟨none, some .INT, some .INT, true⟩
  | .SWS => ⟨none, some .FP, some .INT, true⟩
  | .BEQZ | .BNEZ | .BLTZ | .BGTZ | .BLEZ | .BGEZ => ⟨none, some .INT, none, true⟩
  | .JUMP => ⟨none, none, none, true⟩
  | .EOP | .NOP => ⟨none, none, none, false⟩
  | .ADDS | .SUBS | .MULTS | .DIVS => ⟨some .FP, some .FP, some .FP, false⟩

/-- A register field: an index below 32 where it is used (R87 condition 2), `UNDEF` where it is not
(condition 3). -/
def regFieldOk (use : Option RegFile) (w : Word) : Bool :=
  match use with
  | some _ => w.toNat < 32
  | none => w == undef

/-- Conditions 1, 2 and 3 of 30_encoding.md R87 on one record. -/
def Record.wellFormed (hasFp : Bool) (r : Record) : Bool :=
  match r.op hasFp with
  | none => false
  | some op =>
    regFieldOk op.roles.dest r.dest && regFieldOk op.roles.src1 r.src1 &&
      regFieldOk op.roles.src2 r.src2 && (op.roles.imm || r.imm == undef)

/-- The six opcodes that exist only with `HAS_FP` (00_scope.md R2). -/
def Opcode.needsFp : Opcode → Bool
  | .LWS | .SWS | .ADDS | .SUBS | .MULTS | .DIVS => true
  | .LW | .SW | .ADD | .ADDI | .SUB | .SUBI | .XOR | .BEQZ | .BNEZ | .BLTZ | .BGTZ | .BLEZ
  | .BGEZ | .JUMP | .EOP | .NOP => false

/-- The offset of a branch or jump, `none` for every other instruction. -/
def Instr.offset? : Instr → Option Word
  | .beqz _ imm | .bnez _ imm | .bltz _ imm | .bgtz _ imm | .blez _ imm | .bgez _ imm
  | .jump imm => some imm
  | .lw _ _ _ | .sw _ _ _ | .add _ _ _ | .addi _ _ _ | .sub _ _ _ | .subi _ _ _ | .xor _ _ _
  | .eop | .nop | .lws _ _ _ | .sws _ _ _ | .adds _ _ _ | .subs _ _ _ | .mults _ _ _
  | .divs _ _ _ => none

/-- A well-formed instruction of a variant: its opcode exists in the variant (R87 condition 1) and a
branch or jump offset is a multiple of 4 (the first clause of condition 4). -/
def Instr.wellFormed (hasFp : Bool) (i : Instr) : Bool :=
  (hasFp || !i.opcode.needsFp) &&
    match i.offset? with
    | some imm => imm.toNat % 4 == 0
    | none => true

/-- Condition 4 of R87 for the record at index `current`: a branch or jump target is an index of the
program. -/
def targetInside (len current : Nat) (i : Instr) : Bool :=
  match i.offset? with
  | some imm =>
    let target : Int := (current : Int) + 1 + imm.toInt / 4
    decide (0 ≤ target) && decide (target < (len : Int))
  | none => true

/-- Conditions 1 to 4 of R87 on the records of a program from index `k` on, each checked where it
stands. -/
def recordsWellFormed (hasFp : Bool) (len : Nat) : Nat → List Record → Bool
  | _, [] => true
  | k, r :: rest =>
    r.wellFormed hasFp &&
      (match decodeRecord hasFp r with
       | .instr i => i.wellFormed hasFp && targetInside len k i
       | _ => false) &&
      recordsWellFormed hasFp len (k + 1) rest

/-- The program fits instruction memory (30_encoding.md R87 condition 5). -/
def fitsCapacity (cfg : Config) (n : Nat) : Bool :=
  match cfg.imemCapacity with
  | some cap => decide (n ≤ cap)
  | none => true

/-! ## Paths (30_encoding.md R87 condition 5) -/

/-- The index a branch or jump at index `current` goes to. -/
def targetIndex (current : Nat) (imm : Word) : Nat := ((current : Int) + 1 + imm.toInt / 4).toNat

/-- The indexes that can follow the instruction at index `current` on a path: none after an `EOP`, the
target after a `JUMP`, either side of a conditional branch, the next record otherwise. -/
def Instr.successors (current : Nat) : Instr → List Nat
  | .eop => []
  | .jump imm => [targetIndex current imm]
  | .beqz _ imm | .bnez _ imm | .bltz _ imm | .bgtz _ imm | .blez _ imm | .bgez _ imm =>
    [targetIndex current imm, current + 1]
  | .lw _ _ _ | .sw _ _ _ | .add _ _ _ | .addi _ _ _ | .sub _ _ _ | .subi _ _ _ | .xor _ _ _
  | .nop | .lws _ _ _ | .sws _ _ _ | .adds _ _ _ | .subs _ _ _ | .mults _ _ _
  | .divs _ _ _ => [current + 1]

/-- The same for a record of a program; an index past its end has no successor. -/
def recordSuccessors (hasFp : Bool) (prog : List Record) (current : Nat) : List Nat :=
  match prog[current]? with
  | none => []
  | some r =>
    match decodeRecord hasFp r with
    | .instr i => i.successors current
    | .unknown => [current + 1]
    | .badRegister _ _ => []

/-- `seen` with the indexes of `new` that are not in it yet. -/
def addNew : List Nat → List Nat → List Nat
  | seen, [] => seen
  | seen, k :: new => addNew (if seen.contains k then seen else k :: seen) new

/-- The indexes reached from `seen` by at most that many moves. -/
def reachableIn (next : Nat → List Nat) : Nat → List Nat → List Nat
  | 0, seen => seen
  | n + 1, seen => reachableIn next n (addNew seen (seen.flatMap next))

/-- The indexes on the paths of a program that start at index `k`: a path without a repetition has at
most `prog_len` moves. -/
def reachable (hasFp : Bool) (prog : List Record) (k : Nat) : List Nat :=
  reachableIn (recordSuccessors hasFp prog) prog.length [k]

/-- The record at index `k` of a program is an `EOP`. -/
def isEopAt (hasFp : Bool) (prog : List Record) (k : Nat) : Bool :=
  match prog[k]? with
  | some r => r.op hasFp == some .EOP
  | none => false

/-- The second clause of condition 5: no path from record 0 leaves the program, and from every index
on one an `EOP` can be reached. -/
def pathsReachEop (hasFp : Bool) (prog : List Record) : Bool :=
  (reachable hasFp prog 0).all fun k =>
    decide (k < prog.length) && (reachable hasFp prog k).any (isEopAt hasFp prog)

/-- Conditions 1 to 5 of 30_encoding.md R87 on a program. -/
def programWellFormed (cfg : Config) (prog : List Record) : Bool :=
  fitsCapacity cfg prog.length && recordsWellFormed cfg.hasFp prog.length 0 prog &&
    pathsReachEop cfg.hasFp prog

end Sys2Proof
end

