-- ==== Sys2Proof/Machine/HostPort.lean ====
section
/-! DEFINITION. The operations of the host between cycles (70_reset_and_hazards.md R270 to R276) and the
observation port (60_exceptions.md R247 to R253). A refused call leaves the state unchanged. -/

namespace Sys2Proof.Machine

/-! ## Construction, reset, configuration, load -/

/-- `reset` (R271): every piece of state to the table of 10_state.md R45; the configuration and the
unit table's kinds and latencies are kept. -/
def State.resetMachine (s : State) : State := State.resetWith s.cfg s.units

/-- Construction (R270): the configuration, an empty unit table, then `reset`. -/
def construct (cfg : Config) : State := State.resetWith cfg []

/-- Whether a unit table of `n` entries is within `MAX_UNITS` (47_functional_units.md R220). -/
def withinMaxUnits (cfg : Config) (n : Nat) : Bool :=
  match cfg.maxUnits with
  | some m => decide (n ≤ m)
  | none => true

/-- `init_exec_unit(kind, latency, instances)` (R272, U8). What counts as after `load_program` is the
`loaded` flag alone, which `reset` clears: a call after a `reset` that follows a load is accepted, and
appends to the table that `reset` kept (DESIGN CHOICE, unsafe; log 29). -/
def initExecUnit (kind : UnitKind) (latency instances : Nat) (s : State) : Result :=
  if s.cfg.hasFp = false then .refused .unitsWithoutFp
  else if s.loaded then .refused .unitAfterLoad
  else if latency = 0 then .refused .unitLatencyZero
  else if withinMaxUnits s.cfg (s.units.length + instances) then
    .next (s.setUnits (s.units ++ List.replicate instances (freshUnit kind latency)) s.exUnit)
  else .refused .tooManyUnits

/-- A record every used register field of which is an index below 32 (30_encoding.md R87 condition
2). -/
def registersInRange (hasFp : Bool) (r : Record) : Bool :=
  match decodeRecord hasFp r with
  | .badRegister _ _ => false
  | .instr _ => true
  | .unknown => true

/-- The effect of `load_program` (R273): nothing else changes. -/
def State.withProgram (s : State) (records : List Record) (base : Word) : State :=
  { s with imem := records, base := base, pc := base, loaded := true }

/-- `load_program(records, base)` (R273, U3, U4, U9). -/
def loadProgram (records : List Record) (base : Word) (s : State) : Result :=
  if s.loaded then .refused .loadWithoutReset
  else if fitsCapacity s.cfg records.length = false then .refused .programTooLong
  else if records.all (registersInRange s.cfg.hasFp) then .next (s.withProgram records base)
  else .refused .registerOutOfRange

/-! ## Run -/

/-- `run(n)` for `n > 0`, counted down (45_pipeline_stages.md R153): it stops early at a halt, which
`driverStep` does by staying. -/
def runCycles : Nat → State → Result
  | 0, s => .next s
  | n + 1, s => andThen (driverStep s) (runCycles n)

/-- `run(0)` returns with state `t`: some number of cycles ends in a halted machine (R153). It need
not return at all (U7), so it is a relation (log 20). -/
def RunsToHalt (s t : State) : Prop := ∃ n, runCycles n s = .next t ∧ t.halted = true

/-! ## Seeding -/

/-- `set_gp_register(i, v)`; an index of 32 or more does nothing (60_exceptions.md R252, R253). -/
def setGpRegister (i : Nat) (v : Word) (s : State) : State :=
  if h : i < 32 then s.writeGp ⟨i, h⟩ v else s

/-- `set_int_register`, another name of the same call (R252). -/
def setIntRegister (i : Nat) (v : Word) (s : State) : State := setGpRegister i v s

/-- `set_fp_register(i, v)`, with `HAS_FP` (R252, R253). -/
def setFpRegister (i : Nat) (v : Word) (s : State) : Result :=
  if s.cfg.hasFp then
    if h : i < 32 then .next (s.writeFp ⟨i, h⟩ v) else .next s
  else .refused .fpRegisterWithoutFp

/-- `write_memory(a, v)` (R276; 20_memory.md R76). -/
def writeMemory (a v : Word) (s : State) : Result :=
  if inDataMemory s.cfg a then .next (s.setDmem (s.dmem.writeWord a.toNat v))
  else .refused .hostWriteOutOfRange

/-! ## Observation -/

/-- `get_gp_register(i)`; an index of 32 or more reads as the sentinel (R252, R253). -/
def getGpRegister (i : Nat) (s : State) : Word := if h : i < 32 then s.readGp ⟨i, h⟩ else undef

/-- `get_int_register`, another name of the same call (R252). -/
def getIntRegister (i : Nat) (s : State) : Word := getGpRegister i s

/-- `get_fp_register(i)`, with `HAS_FP`; without it the call does not exist (R252, R253). -/
def getFpRegister (i : Nat) (s : State) : Option Word :=
  if s.cfg.hasFp then some (if h : i < 32 then s.readFp ⟨i, h⟩ else undef) else none

/-- `get_clock_cycles` (R247). -/
def getClockCycles (s : State) : Word := s.cycle

/-- `get_instructions_executed` (R247). -/
def getInstructionsExecuted (s : State) : Word := s.instCount

/-- `get_stalls` (R247). -/
def getStalls (s : State) : Word := s.totalStalls

/-- `get_IPC`: the exact rational `inst_count / cycle` as a pair (R248); at cycle 0 a FREE VALUE
(log 17). -/
def getIpc (s : State) : Nat × Nat :=
  if s.cycle = 0#32 then Config.ipcAtCycleZero s.instCount.toNat
  else (s.instCount.toNat, s.cycle.toNat)

/-- The result of `get_IPC` as the API delivers it: the bits of the rational in the implementation's
format, a FREE VALUE (R248, U11; log 17). -/
def getIpcFormatted (s : State) : List Bool := Config.ipcFormat (getIpc s)

/-- The bytes that `print_memory(lo, hi)` shows: those of `lo .. hi-1` that exist (20_memory.md R76,
60_exceptions.md R255; log 18). -/
def memoryRange (lo hi : Nat) (s : State) : List Byte :=
  (List.range' lo (min hi s.cfg.dmemSize - lo)).map s.dmem.read

/-- The field names of the observation port (60_exceptions.md R251). -/
inductive FieldName where
  | PC | NPC | IR | A | B | IMM | COND | ALU_OUTPUT | LMD
  deriving DecidableEq, Repr

/-- What `get_sp_register` returns: a word, or for `IR` the record (R251). -/
inductive SpValue where
  | word (w : Word)
  | record (r : Record)
  deriving DecidableEq, Repr

/-- The table of R251: the named field of a stage's entrance latch, or the sentinel. -/
def spRegister (s : State) : FieldName → Stage → SpValue
  | .PC, .IF => .word s.pc
  | .NPC, .ID => .word s.ifid.npc
  | .IR, .ID => .record s.ifid.ir
  | .NPC, .EX => .word s.idex.npc
  | .IR, .EX => .record s.idex.ir
  | .A, .EX => .word s.idex.a
  | .B, .EX => .word s.idex.b
  | .IMM, .EX => .word s.idex.imm
  | .IR, .MEM => .record s.exmem.ir
  | .B, .MEM => .word s.exmem.b
  | .COND, .MEM => .word s.exmem.cond
  | .ALU_OUTPUT, .MEM => .word s.exmem.aluOutput
  | .IR, .WB => .record s.memwb.ir
  | .ALU_OUTPUT, .WB => .word s.memwb.aluOutput
  | .LMD, .WB => .word s.memwb.lmd
  | _, _ => .word undef

/-- `get_sp_register(name, stage)` (R251); `none` stands for a name or a stage outside the lists,
which reads as the sentinel (R253). -/
def getSpRegister (name : Option FieldName) (stage : Option Stage) (s : State) : SpValue :=
  match name, stage with
  | some n, some g => spRegister s n g
  | _, _ => .word undef

/-- The 32-bit form of what the port returns; of a record it is a FREE VALUE, `IR_U32` (R251, U12;
log 17). -/
def SpValue.toWord : SpValue → Word
  | .word w => w
  | .record r => Config.irU32 r

end Sys2Proof.Machine
end

