-- ==== Sys2Proof/Machine/Step.lean ====
section
/-! DEFINITION. One step of the machine, and the placing of one instruction where the next step fetches
it. -/

namespace Sys2Proof.Machine

/-- One step: one iteration of the cycle driver, so that `k` steps are `run(k)`
(45_pipeline_stages.md R153; log 1). -/
def step (s : State) : Host.Outcome State Fault Refusal := driverStep s

/-- The state with the instruction whose bits are `w` stored where the next step fetches it, and with
all that the fetch takes: a loaded program of that one record at the present `pc`, an empty pipeline
and no stall, wait, redirect or halt (log 11). Registers, data memory, counters, configuration and the
unit kinds and latencies are untouched. -/
def State.withFetchWord (s : State) (nbits w : Nat) : State :=
  { s with
    imem := [tableRecord nbits w]
    base := s.pc
    loaded := true
    halted := false
    eopFetched := false
    branchPending := false
    stallKind := .NONE
    stallRem := 0
    stallSize := 0
    memStall := false
    memCnt := 0
    exUnit := none
    ifid := bubble
    idex := bubble
    exmem := bubble
    memwb := bubble
    stage := .IF }

end Sys2Proof.Machine
end

