-- ==== Sys2Proof/Machine/Sequential.lean ====
section
/-! DEFINITION. The sequential reading of a program that the pipeline preserves: its records one at a time
in program order, each to completion before the next starts (45_pipeline_stages.md R173 item 7). It is
written with the same meanings, `exec`, stage after stage. -/

namespace Sys2Proof.Machine

/-- One record through the five stages with nothing else in the pipeline: the *architectural effect*
of its instruction (the template at the head of 40_integer_alu.md). -/
def runAlone (r : Record) (s : State) : Result :=
  andThen (execRecord .IF r (latchFetch r s)) fun s1 =>
  andThen (execRecord .ID r s1) fun s2 =>
  andThen (execRecord .EX r s2) fun s3 =>
  andThen (execRecord .MEM r s3) fun s4 =>
  execRecord .WB r s4

/-- The record at `pc`, run alone; a taken branch before it has redirected `pc`. -/
def sequentialStep (s : State) : Result :=
  match fetchRecord (redirect s) with
  | .error f => .fault f
  | .ok r => runAlone r (redirect s)

/-- `n` records one after another, stopping at an `EOP`. -/
def runSequential : Nat → State → Result
  | 0, s => .next s
  | n + 1, s => if s.halted then .next s else andThen (sequentialStep s) (runSequential n)

end Sys2Proof.Machine
end

