-- ==== Sys2Proof/Safety.lean ====
section
/-! DEFINITION. What counts as a safe run, and the invariants of the machine that statements speak of
(10_state.md R32, R33, R47; 45_pipeline_stages.md R173). -/

namespace Sys2Proof

open Sys2Proof.Machine

/-! ## Runs -/

/-- No number of cycles from `s` ends in a fault: every access and every fetch stays inside the rules
(30_encoding.md R87 conditions 4 to 6, as a run shows them). -/
def NeverFaults (s : State) : Prop := ∀ n f, runCycles n s ≠ .fault f

/-- `run(0)` returns (30_encoding.md R87 condition 5, for the path a run takes: it reaches an
`EOP`). -/
def Halts (s : State) : Prop := ∃ t, RunsToHalt s t

/-- A run that is safe: it ends by an `EOP` and never leaves the rules. -/
def SafeRun (s : State) : Prop := NeverFaults s ∧ Halts s

/-- The whole of 30_encoding.md R87 for the run of a loaded machine: conditions 1 to 4 and the
capacity on its program, conditions 5 and 6 on the path and the addresses of this run (log 28). -/
def WellFormedRun (s : State) : Prop :=
  recordsWellFormed s.cfg.hasFp s.imem.length 0 s.imem = true ∧
    fitsCapacity s.cfg s.imem.length = true ∧ SafeRun s

/-- A machine that has just been loaded with a program and whose registers and data memory the host
may have seeded: everything else is as after `reset` and `load_program`
(70_reset_and_hazards.md R274). -/
def FreshlyLoaded (s : State) : Prop :=
  ∃ (cfg : Config) (us : List FunctionalUnit) (prog : List Record) (base : Word)
    (gp fp : Vector Word 32) (dmem : Memory),
    prog.all (registersInRange cfg.hasFp) = true ∧
    s = { (State.resetWith cfg us).withProgram prog base with gp := gp, fp := fp, dmem := dmem }

/-! ## Data memory -/

/-- Data memory is in its canonical form and lists no address outside the data address space
(20_memory.md R60). -/
abbrev MemoryInv (s : State) : Prop :=
  s.dmem.wf = true ∧ ∀ c ∈ s.dmem, c.1 < s.cfg.dmemSize

/-! ## Which fields an opcode uses in a latch (10_state.md R32, R33) -/

/-- The opcode reads a first register value into `a` (45_pipeline_stages.md R166). -/
def usesA (op : Option Opcode) : Bool :=
  match op with
  | some .JUMP | some .EOP | some .NOP | none => false
  | some .LW | some .SW | some .ADD | some .ADDI | some .SUB | some .SUBI | some .XOR
  | some .BEQZ | some .BNEZ | some .BLTZ | some .BGTZ | some .BLEZ | some .BGEZ
  | some .LWS | some .SWS | some .ADDS | some .SUBS | some .MULTS | some .DIVS => true

/-- The opcode reads a second register value into `b` (45_pipeline_stages.md R166). -/
def usesB (op : Option Opcode) : Bool :=
  match op with
  | some .ADD | some .SUB | some .XOR | some .SW | some .SWS
  | some .ADDS | some .SUBS | some .MULTS | some .DIVS => true
  | some .LW | some .ADDI | some .SUBI | some .BEQZ | some .BNEZ | some .BLTZ | some .BGTZ
  | some .BLEZ | some .BGEZ | some .JUMP | some .EOP | some .NOP | some .LWS | none => false

/-- The opcode is a load. -/
def isLoad (op : Option Opcode) : Bool := op == some .LW || op == some .LWS

/-- The opcode is a store. -/
def isStore (op : Option Opcode) : Bool := op == some .SW || op == some .SWS

/-- The fields of `IFID` that no opcode uses there. -/
abbrev IfidInv (l : Latch) : Prop :=
  l.a = undef ∧ l.b = undef ∧ l.imm = undef ∧ l.aluOutput = undef ∧ l.lmd = undef ∧ l.cond = undef

/-- The fields of `IDEX` that the opcode does not use there. -/
abbrev IdexInv (hasFp : Bool) (l : Latch) : Prop :=
  l.aluOutput = undef ∧ l.lmd = undef ∧ l.cond = undef ∧
  (l.ir.op hasFp = some .NOP → l.npc = undef ∧ l.imm = undef) ∧
  (l.ir.op hasFp ≠ some .NOP → l.imm = l.ir.imm) ∧
  (usesA (l.ir.op hasFp) = false → l.a = undef) ∧
  (usesB (l.ir.op hasFp) = false → l.b = undef)

/-- The fields of `EXMEM` that the opcode does not use there; a `NOP` has `alu_output` 0, or `UNDEF` in
the reset bubble (R33, 90_conflicts.md C2). -/
abbrev ExmemInv (hasFp : Bool) (l : Latch) : Prop :=
  l.npc = undef ∧ l.a = undef ∧ l.imm = undef ∧ l.lmd = undef ∧
  (usesB (l.ir.op hasFp) = false → l.b = undef) ∧
  (isBranch hasFp l.ir = false → l.cond = undef) ∧
  (isBranch hasFp l.ir = true → l.cond = 0#32 ∨ l.cond = 1#32) ∧
  (l.ir.op hasFp = some .NOP → l.aluOutput = 0#32 ∨ l.aluOutput = undef) ∧
  (l.ir.op hasFp = some .EOP ∨ l.ir.op hasFp = none → l.aluOutput = undef)

/-- The fields of `MEMWB` that the opcode does not use there. -/
abbrev MemwbInv (hasFp : Bool) (l : Latch) : Prop :=
  l.npc = undef ∧ l.a = undef ∧ l.b = undef ∧ l.imm = undef ∧ l.cond = undef ∧
  (isLoad (l.ir.op hasFp) = true ∨ isStore (l.ir.op hasFp) = true → l.aluOutput = undef) ∧
  (isLoad (l.ir.op hasFp) = false → l.lmd = undef)

/-- The latch invariant: fields unused by the opcode in a latch hold `UNDEF` (R32, R33). -/
abbrev LatchInv (s : State) : Prop :=
  IfidInv s.ifid ∧ IdexInv s.cfg.hasFp s.idex ∧ ExmemInv s.cfg.hasFp s.exmem ∧
    MemwbInv s.cfg.hasFp s.memwb

/-! ## Records -/

/-- Every record of the program and of the latches names registers that exist
(30_encoding.md R87 condition 2). -/
abbrev RegistersInv (s : State) : Prop :=
  s.imem.all (registersInRange s.cfg.hasFp) = true ∧
  registersInRange s.cfg.hasFp s.ifid.ir = true ∧ registersInRange s.cfg.hasFp s.idex.ir = true ∧
  registersInRange s.cfg.hasFp s.exmem.ir = true ∧ registersInRange s.cfg.hasFp s.memwb.ir = true

/-! ## Control state -/

/-- The stall state (46_hazard_unit.md R206): no size and no count outside a stall, at most 2 inside
one, and a RAW stall is held for a record that reads a register. -/
abbrev StallInv (s : State) : Prop :=
  (s.stallKind = .NONE → s.stallRem = 0 ∧ s.stallSize = 0) ∧
  (s.stallKind = .RAW → 1 ≤ s.stallSize ∧ s.stallSize ≤ 2 ∧ s.stallRem ≤ s.stallSize ∧
    srcs s.cfg.hasFp s.ifid.ir ≠ []) ∧
  (s.stallKind = .BRANCH → s.stallSize = 2 ∧ s.stallRem ≤ 2)

/-- A branch and its BRANCH stall (42_branch_jump.md R128): the branch waits in `IFID` with 2 to go,
is in `IDEX` with 1 to go, has resolved with 0 to go, and only then can a redirect be pending. -/
abbrev BranchInv (s : State) : Prop :=
  (s.branchPending = true → s.stallKind = .BRANCH ∧ s.stallRem = 0) ∧
  (isBranch s.cfg.hasFp s.idex.ir = true ↔ s.stallKind = .BRANCH ∧ s.stallRem = 1) ∧
  (s.stallKind = .BRANCH ∧ s.stallRem = 2 → isBranch s.cfg.hasFp s.ifid.ir = true) ∧
  (s.stallKind = .BRANCH ∧ s.stallRem ≤ 1 → s.ifid = bubble) ∧
  (s.stallKind = .BRANCH ∧ s.stallRem = 0 → s.idex = bubble)

/-- The memory wait (45_pipeline_stages.md R157): a count only while a load or store waits, below the
latency. -/
abbrev MemWaitInv (s : State) : Prop :=
  (s.memStall = false → s.memCnt = 0) ∧
  (s.memStall = true →
    isMem s.cfg.hasFp s.exmem.ir = true ∧ s.memCnt < s.cfg.dmemLatency ∧ s.exUnit = none)

/-- The functional units between cycles (47_functional_units.md R228): at most the unit held by the
instruction in `IDEX` is busy, it is of the instruction's class, runs its record and has cycles left,
and EX has sent its bubble ahead (45_pipeline_stages.md R164). A unit holds the record it runs, and
`NOP_REC` while it is free (10_state.md R43; log 27). -/
abbrev UnitInv (s : State) : Prop :=
  (s.exUnit = none → ∀ u ∈ s.units, u.busy = 0) ∧
  (∀ u ∈ s.units, u.instruction = if u.busy = 0 then nopRec else u.lastAccepted) ∧
  (∀ j ∈ s.exUnit,
    s.exmem = exBubble ∧
    1 ≤ busyOf s.units j ∧
    unitClass s.cfg.hasFp s.idex.ir = (s.units[j]?).map FunctionalUnit.kind ∧
    (s.units[j]?).map FunctionalUnit.lastAccepted = some s.idex.ir ∧
    ∀ i < s.units.length, i ≠ j → busyOf s.units i = 0)

/-- The record in a latch is an `EOP`. -/
abbrev isEop (s : State) (l : Latch) : Prop := l.ir.op s.cfg.hasFp = some .EOP

/-- How many unfrozen cycles have passed since the `EOP` was fetched: the latch it is in, 4 once it
has left the pipeline (45_pipeline_stages.md R170). -/
def drainDepth (s : State) : Nat :=
  if s.eopFetched = false then 0
  else if s.ifid.ir.op s.cfg.hasFp = some .EOP then 0
  else if s.idex.ir.op s.cfg.hasFp = some .EOP then 1
  else if s.exmem.ir.op s.cfg.hasFp = some .EOP then 2
  else if s.memwb.ir.op s.cfg.hasFp = some .EOP then 3
  else 4

/-- The drain after an `EOP` (45_pipeline_stages.md R154, R170; 70_reset_and_hazards.md R281). Before
one is fetched there is none in the pipeline. Afterwards there is exactly one, with bubbles behind it
and no stall and no redirect, until it has left; then the machine is halted. -/
abbrev EopInv (s : State) : Prop :=
  (s.eopFetched = false → ¬ isEop s s.ifid ∧ ¬ isEop s s.idex ∧ ¬ isEop s s.exmem ∧
    ¬ isEop s s.memwb ∧ s.halted = false) ∧
  (s.eopFetched = true → s.stallKind = .NONE ∧ s.branchPending = false ∧
    (s.halted = true ↔ drainDepth s = 4) ∧
    (isEop s s.ifid → ¬ isEop s s.idex ∧ ¬ isEop s s.exmem ∧ ¬ isEop s s.memwb) ∧
    (1 ≤ drainDepth s → s.ifid = bubble) ∧
    (drainDepth s = 1 → ¬ isEop s s.exmem ∧ ¬ isEop s s.memwb) ∧
    (2 ≤ drainDepth s → s.idex = bubble) ∧
    (drainDepth s = 2 → ¬ isEop s s.memwb) ∧
    (3 ≤ drainDepth s → s.exmem = exBubble) ∧
    (4 ≤ drainDepth s → s.memwb = exBubble))

/-- The accounting of cycles: every cycle fetched a record, or is counted in `total_stalls`, or is a
stall cycle not yet added at its release, or drains an `EOP` (70_reset_and_hazards.md R280). -/
abbrev AccountInv (s : State) : Prop :=
  s.cycle = s.fetchedCount + s.totalStalls + BitVec.ofNat 32 (s.stallSize - s.stallRem) +
    BitVec.ofNat 32 (drainDepth s) ∧
  s.fetchedCount = s.instCount + (if s.eopFetched then 1#32 else 0#32)

/-- The control state of the pipeline between cycles. -/
abbrev PipelineInv (s : State) : Prop :=
  StallInv s ∧ BranchInv s ∧ MemWaitInv s ∧ UnitInv s ∧ EopInv s ∧ AccountInv s

/-- A pipeline with nothing in it and nothing pending, about to fetch. -/
abbrev Drained (s : State) : Prop :=
  s.loaded = true ∧ s.halted = false ∧ s.eopFetched = false ∧ s.branchPending = false ∧
  s.stallKind = .NONE ∧ s.memStall = false ∧
  s.ifid.ir = nopRec ∧ s.idex.ir = nopRec ∧ s.exmem.ir = nopRec ∧ s.memwb.ir = nopRec

/-! ## What statements compare -/

/-- The state without what is in flight: the four latches emptied and the model's stage mark at its
place between cycles. What is left is the registers, the memories, `pc` and the control state. -/
def withoutLatches (s : State) : State :=
  { s with ifid := bubble, idex := bubble, exmem := bubble, memwb := bubble, stage := .IF }

/-- The value of a register named by file and 32-bit index; `none` for an index of 32 or more. -/
def registerValue (s : State) (x : RegFile × Word) : Option Word :=
  match x.1 with
  | .INT => s.gp[x.2.toNat]?
  | .FP => s.fp[x.2.toNat]?

/-- The cycle that starts in `s` is frozen by neither wait: MEM does not wait and EX is done
(45_pipeline_stages.md R172). -/
abbrev Unfrozen (s : State) : Prop := memWaits s = false ∧ exDone (acquireUnit s) = true

/-- `r` is the binary32 number that `n / d`, in units of 2^-149, rounds to: to nearest, ties to even,
an infinity from the halfway point past the largest finite number on, with the sign of a non-zero `n`
(43_fp_arith.md R139). -/
def RoundsTo (r : Word) (n : Int) (d : Nat) : Prop :=
  isNaN r = false ∧
  (isInfinite r = true ↔ (2 ^ 25 - 1) * 2 ^ 252 * d ≤ n.natAbs) ∧
  (n ≠ 0 → signBit r = decide (n < 0)) ∧
  (isInfinite r = false → ∀ w : Word, exponentField w ≠ 255 → exactValue w ≠ exactValue r →
    let far := (exactValue w * d - n).natAbs
    let near := (exactValue r * d - n).natAbs
    near ≤ far ∧ (near = far → fractionField r % 2 = 0))

/-- What the hazard handler makes of the stall state when no stall is in progress: a RAW stall of the
count of the table, which comes before the BRANCH stall of a branch in `IFID`; neither, and the stall
state stays (46_hazard_unit.md R205, R206). `k`, `rem` and `size` are the stall state it leaves. -/
def SetsStall (s : State) (k : StallKind) (rem size : Nat) : Prop :=
  (∀ n, raw s.cfg.hasFp s.ifid.ir s.idex.ir s.exmem.ir s.memwb.ir = n → 0 < n →
    k = .RAW ∧ rem = n ∧ size = n) ∧
  (raw s.cfg.hasFp s.ifid.ir s.idex.ir s.exmem.ir s.memwb.ir = 0 →
    (isBranch s.cfg.hasFp s.ifid.ir = true → k = .BRANCH ∧ rem = 2 ∧ size = 2) ∧
    (isBranch s.cfg.hasFp s.ifid.ir = false →
      k = .NONE ∧ rem = s.stallRem ∧ size = s.stallSize))

/-- The machine will perform a cycle: a program is loaded and the machine has not halted
(45_pipeline_stages.md R150). -/
abbrev Running (s : State) : Prop := s.loaded = true ∧ s.halted = false

end Sys2Proof
end

