-- ==== Sys2Proof/Certificates/Slice0/Obligations.lean ====
section
/-! DEFINITION. The statements for the provers. A statement that follows a decision of the spec
(`[decision: see 92_eei_decisions.md D<n>]`), one of its derivations, or a choice of the model names
it; OBLIGATIONS.json then lists the statement as derived. -/

section

open Sys2Proof Sys2Proof.Machine

/-! ## Encoding -/

/-- Decoding the word of an instruction gives the instruction, in every variant that has its opcode,
whatever its operands are; with `HAS_FP` the opcode-table decoder says the same. Rests on D5, D6, D7
and D8 (30_encoding.md sections 1 and 2). -/
def Obligations.DecodeInvertsEncode : Prop :=
  ∀ (b : Bool) (i : Instr), (i.opcode.needsFp = true → b = true) →
    decodeRecord b (encode i) = .instr i ∧
    decodeBits b (encodeBits i) = .instr i ∧
    decodeTableWord 160 (encodeBits i).toNat = some i

/-- Every well-formed word decodes to an instruction, and encoding that gives the word back: decoding
drops no bit of a well-formed word. Rests on D5 to D8 and D26. -/
def Obligations.EncodeInvertsDecode : Prop :=
  ∀ (b : Bool) (w : BitVec 160), (Record.ofBits w).wellFormed b = true →
    ∃ i, decodeBits b w = .instr i ∧ encodeBits i = w

/-- A record decodes to the unknown opcode exactly from number 22 up, without `HAS_FP` from number 16
up (30_encoding.md section 3; D6, D38). -/
def Obligations.UnknownOpcodeNumbers : Prop :=
  ∀ (b : Bool) (r : Record),
    decodeRecord b r = .unknown ↔ (if b then 22 else 16) ≤ r.opcode.toNat

/-- Words written out from the encodings of files 40 to 44 decode to the instructions they stand for
(D5, D6). A sanity statement on fixed words. -/
def Obligations.WrittenWordsDecode : Prop :=
  decodeBits true 0x0000000300000001_00000000FFFFFFFF00000005#160 = .instr (.addi 1 0 5#32) ∧
  decodeBits true 0x00000001FFFFFFFF_000000020000000300000008#160 = .instr (.sw 2 3 8#32) ∧
  decodeBits true 0x0000000A_FFFFFFFF00000001_FFFFFFFFFFFFFFF4#160 =
    .instr (.bgtz 1 0xFFFFFFF4#32) ∧
  decodeBits true 0x0000001400000003_0000000100000002FFFFFFFF#160 = .instr (.mults 3 1 2) ∧
  decodeBits false 0x0000001400000003_0000000100000002FFFFFFFF#160 = .unknown ∧
  decodeBits true 0x0000000EFFFFFFFF_FFFFFFFFFFFFFFFFFFFFFFFF#160 = .instr .eop

/-- The loader's offset is `(target - current - 1) * 4` modulo 2^32, and from the `npc` of the branch
it reaches the byte address of the target, for every base and every pair of indices (R85). -/
def Obligations.BranchOffsetReachesTarget : Prop :=
  ∀ (base : Word) (target current : Nat),
    branchOffset target current = BitVec.ofInt 32 (((target : Int) - (current : Int) - 1) * 4) ∧
    base + 4#32 * BitVec.ofNat 32 (current + 1) + branchOffset target current =
      base + 4#32 * BitVec.ofNat 32 target ∧
    branchOffset 2 4 = 0xFFFFFFF4#32

/-! ## Data memory -/

/-- The two access primitives, on a data memory in its canonical form: a stored word lies
little-endian in its four bytes, no other byte changes, and the word read from four bytes is their
little-endian sum; so a word stored is the word read (R61, R62, R63). The premise is about the
model's own representation of data memory (log 25); `StepKeepsMemoryInv` says that every step keeps
it. -/
def Obligations.WordStoreAndLoad : Prop :=
  ∀ (m : Memory) (a : Nat) (v : Word), m.wf = true →
    (m.writeWord a v).read a = v.extractLsb' 0 8 ∧
    (m.writeWord a v).read (a + 1) = v.extractLsb' 8 8 ∧
    (m.writeWord a v).read (a + 2) = v.extractLsb' 16 8 ∧
    (m.writeWord a v).read (a + 3) = v.extractLsb' 24 8 ∧
    (∀ x, x < a ∨ a + 4 ≤ x → (m.writeWord a v).read x = m.read x) ∧
    (m.readWord a).toNat =
      (m.read a).toNat + 2 ^ 8 * (m.read (a + 1)).toNat + 2 ^ 16 * (m.read (a + 2)).toNat +
        2 ^ 24 * (m.read (a + 3)).toNat ∧
    (m.writeWord a v).readWord a = v

/-- The canonical form is canonical: two memories in it that read alike at every address are the same
data. About the model's own representation. -/
def Obligations.MemoriesThatReadAlikeAreEqual : Prop :=
  ∀ m m' : Memory, m.wf = true → m'.wf = true → (∀ a, m.read a = m'.read a) → m = m'

/-- Every step keeps data memory inside the data address space (20_memory.md section 1; D25) and in
its canonical form. The canonical form is the model's choice, of how data memory is written down
(log 25); the spec says nothing of it. -/
def Obligations.StepKeepsMemoryInv : Prop :=
  ∀ s t : State, MemoryInv s → step s = .next t → MemoryInv t

/-! ## Reset -/

/-- Reset, of any machine: every register of both files reads `UNDEF`, every byte `0xFF`, the latches
are `BUBBLE`, the control state and the counters are clear, no unit is busy, and the configuration
with the kinds and latencies of the units is kept (10_state.md section 10; D21, D30, D31, D37; log 27
for the two records of a unit). -/
def Obligations.ResetValues : Prop :=
  ∀ s : State,
    (∀ r : Reg, s.resetMachine.readGp r = undef ∧ s.resetMachine.readFp r = undef) ∧
    (∀ a, s.resetMachine.dmem.read a = 0xFF#8) ∧
    s.resetMachine.pc = undef ∧ s.resetMachine.base = undef ∧
    s.resetMachine.imem = [] ∧ s.resetMachine.loaded = false ∧
    s.resetMachine.ifid = bubble ∧ s.resetMachine.idex = bubble ∧
    s.resetMachine.exmem = bubble ∧ s.resetMachine.memwb = bubble ∧
    s.resetMachine.stallKind = .NONE ∧ s.resetMachine.stallRem = 0 ∧
    s.resetMachine.stallSize = 0 ∧
    s.resetMachine.branchPending = false ∧ s.resetMachine.branchTarget = undef ∧
    s.resetMachine.memStall = false ∧ s.resetMachine.memCnt = 0 ∧
    s.resetMachine.exUnit = none ∧
    s.resetMachine.eopFetched = false ∧ s.resetMachine.halted = false ∧
    s.resetMachine.cycle = 0#32 ∧ s.resetMachine.fetchedCount = 0#32 ∧
    s.resetMachine.instCount = 0#32 ∧ s.resetMachine.totalStalls = 0#32 ∧
    s.resetMachine.cfg = s.cfg ∧
    s.resetMachine.units.map (fun u => (u.kind, u.latency)) =
      s.units.map (fun u => (u.kind, u.latency)) ∧
    (∀ u ∈ s.resetMachine.units,
      u.busy = 0 ∧ u.instruction = nopRec ∧ u.lastAccepted = nopRec)

/-- `State.reset` meets every invariant that the other statements show steps to keep. Its
configuration is the model's choice (log 4). -/
def Obligations.ResetMeetsInvariants : Prop :=
  MemoryInv State.reset ∧ LatchInv State.reset ∧ RegistersInv State.reset ∧
    PipelineInv State.reset

/-- A machine just loaded, with any configuration, units, program, base and seeded registers and
memory, meets the pipeline's invariants. Derived: the spec states them of runs
(10_state.md section 11; 45_pipeline_stages.md section 7). -/
def Obligations.FreshLoadMeetsInvariants : Prop :=
  ∀ s : State, FreshlyLoaded s → LatchInv s ∧ RegistersInv s ∧ PipelineInv s

/-! ## Instructions, stage by stage

`exec i s` makes the contribution of `i` to the stage `s.stage` (log 2). Each equation gives the whole
next state, so everything it does not name is unchanged. -/

/-- IF, for every opcode: a fetched `EOP` is counted in `fetched_count` and recorded, every other
instruction is counted in both counters (45_pipeline_stages.md section 6; D4, D41). -/
def Obligations.FetchCountsInstruction : Prop :=
  ∀ (i : Instr) (s : State), s.stage = .IF →
    exec i s = .next
      (if i = .eop then { s with fetchedCount := s.fetchedCount + 1#32, eopFetched := true }
       else
        { s with fetchedCount := s.fetchedCount + 1#32, instCount := s.instCount + 1#32 })

/-- `ADD`, `SUB` and `XOR` in ID, EX, MEM and WB (40_integer_alu.md; D10 for the wrapping). -/
def Obligations.IntegerRegisterRegister : Prop :=
  ∀ (rd rs rt : Reg) (i : Instr) (f : Word → Word → Word) (s : State),
    (i, f) ∈ [(Instr.add rd rs rt, fun a b => a + b), (.sub rd rs rt, fun a b => a - b),
      (.xor rd rs rt, fun a b => a ^^^ b)] →
    (s.stage = .ID → exec i s = .next
      { s with
        idex := { bubble with
          ir := s.ifid.ir
          npc := s.ifid.npc
          a := s.gp[rs.val]
          b := s.gp[rt.val]
          imm := s.ifid.ir.imm } }) ∧
    (s.stage = .EX → exec i s = .next
      { s with
        exmem := { bubble with
          ir := s.idex.ir, aluOutput := f s.idex.a s.idex.b, b := s.idex.b } }) ∧
    (s.stage = .MEM → exec i s = .next
      { s with memwb := { bubble with ir := s.exmem.ir, aluOutput := s.exmem.aluOutput } }) ∧
    (s.stage = .WB → exec i s = .next { s with gp := s.gp.set rd.val s.memwb.aluOutput })

/-- `XOR`, the whole of its rule: the encoding, what it does in ID, EX, MEM and WB, its functional
unit, the registers it reads and its being a producer of its destination in every hazard row, the net
effect, the corner cases and the example (R104). -/
def Obligations.XorWholeRule : Prop :=
  (∀ rd rs rt : Reg,
    encode (.xor rd rs rt) = ⟨6#32, BitVec.ofNat 32 rd.val, BitVec.ofNat 32 rs.val,
      BitVec.ofNat 32 rt.val, 0xFFFFFFFF#32⟩ ∧
    unitClass true (encode (.xor rd rs rt)) = some .INTEGER ∧
    (∀ b, srcs b (encode (.xor rd rs rt)) =
      [(.INT, BitVec.ofNat 32 rs.val), (.INT, BitVec.ofNat 32 rt.val)]) ∧
    (∀ b, destFile b (encode (.xor rd rs rt)) = .INT ∧
      rowOneProducer b (encode (.xor rd rs rt)) = true ∧
      rowThreeProducer b (encode (.xor rd rs rt)) = true ∧
      rowFourProducer b (encode (.xor rd rs rt)) = true)) ∧
  (∀ (rd rs rt : Reg) (s : State),
    (s.stage = .ID → exec (.xor rd rs rt) s = .next
      { s with
        idex := { bubble with
          ir := s.ifid.ir
          npc := s.ifid.npc
          a := s.gp[rs.val]
          b := s.gp[rt.val]
          imm := s.ifid.ir.imm } }) ∧
    (s.stage = .EX → exec (.xor rd rs rt) s = .next
      { s with
        exmem := { bubble with
          ir := s.idex.ir, aluOutput := s.idex.a ^^^ s.idex.b, b := s.idex.b } }) ∧
    (s.stage = .MEM → exec (.xor rd rs rt) s = .next
      { s with memwb := { bubble with ir := s.exmem.ir, aluOutput := s.exmem.aluOutput } }) ∧
    (s.stage = .WB →
      exec (.xor rd rs rt) s = .next { s with gp := s.gp.set rd.val s.memwb.aluOutput })) ∧
  (∀ (rd rs rt : Reg) (s : State), ∃ t, runAlone (encode (.xor rd rs rt)) s = .next t ∧
    t.gp = s.gp.set rd.val (s.gp[rs.val] ^^^ s.gp[rt.val]) ∧
    (rs = rt → t.gp = s.gp.set rd.val 0#32) ∧
    (s.gp[rt.val] = undef → t.gp = s.gp.set rd.val (~~~ s.gp[rs.val])) ∧
    (s.gp[rs.val] = 0x0F0F0F0F#32 → s.gp[rt.val] = 0x00FF00FF#32 →
      t.gp = s.gp.set rd.val 0x0FF00FF0#32))

/-- `ADDI` and `SUBI` in ID, EX, MEM and WB (40_integer_alu.md; D10 for the wrapping). -/
def Obligations.IntegerRegisterImmediate : Prop :=
  ∀ (rd rs : Reg) (imm : Word) (i : Instr) (f : Word → Word → Word) (s : State),
    (i, f) ∈ [(Instr.addi rd rs imm, fun a b => a + b), (.subi rd rs imm, fun a b => a - b)] →
    (s.stage = .ID → exec i s = .next
      { s with
        idex := { bubble with
          ir := s.ifid.ir, npc := s.ifid.npc, a := s.gp[rs.val], imm := imm } }) ∧
    (s.stage = .EX → exec i s = .next
      { s with
        exmem := { bubble with
          ir := s.idex.ir, aluOutput := f s.idex.a s.idex.imm, b := s.idex.b } }) ∧
    (s.stage = .MEM → exec i s = .next
      { s with memwb := { bubble with ir := s.exmem.ir, aluOutput := s.exmem.aluOutput } }) ∧
    (s.stage = .WB → exec i s = .next { s with gp := s.gp.set rd.val s.memwb.aluOutput })

/-- `LW` and, with `HAS_FP`, `LWS` in ID, EX, MEM and WB; an address whose four bytes are not all in
data memory ends the run in a fault (41_load_store.md; D13, D22, and D25 for the fault). -/
def Obligations.LoadStages : Prop :=
  ∀ (rd rs : Reg) (imm : Word) (i : Instr) (s : State),
    i = .lw rd rs imm ∨ (i = .lws rd rs imm ∧ s.cfg.hasFp = true) →
    (s.stage = .ID → exec i s = .next
      { s with
        idex := { bubble with
          ir := s.ifid.ir, npc := s.ifid.npc, a := s.gp[rs.val], imm := imm } }) ∧
    (s.stage = .EX → exec i s = .next
      { s with
        exmem := { bubble with
          ir := s.idex.ir, aluOutput := s.idex.a + s.idex.imm, b := s.idex.b } }) ∧
    (s.stage = .MEM → s.exmem.aluOutput.toNat + 3 < s.cfg.dmemSize → exec i s = .next
      { s with
        memwb := { bubble with
          ir := s.exmem.ir, lmd := s.dmem.readWord s.exmem.aluOutput.toNat } }) ∧
    (s.stage = .MEM → s.cfg.dmemSize ≤ s.exmem.aluOutput.toNat + 3 →
      exec i s = .fault (.dataAddressOutOfRange s.exmem.aluOutput)) ∧
    (s.stage = .WB → exec i s = .next
      (if i = .lw rd rs imm then { s with gp := s.gp.set rd.val s.memwb.lmd }
       else { s with fp := s.fp.set rd.val s.memwb.lmd }))

/-- `SW` and, with `HAS_FP`, `SWS` in ID, EX, MEM and WB: the base is the second source register and
the data the first; in MEM the four bytes at the address in `EXMEM` take the word and no other byte
changes; out of range the run ends in a fault (41_load_store.md; D8, D13, D14, D22, D25). The
canonical form of data memory, the premise of the read-back clause, and that the store keeps it, are
about the model's own representation (log 25). -/
def Obligations.StoreStages : Prop :=
  ∀ (rs rt : Reg) (imm : Word) (i : Instr) (s : State),
    i = .sw rs rt imm ∨ (i = .sws rs rt imm ∧ s.cfg.hasFp = true) →
    (s.stage = .ID → exec i s = .next
      { s with
        idex := { bubble with
          ir := s.ifid.ir
          npc := s.ifid.npc
          a := s.gp[rt.val]
          b := if i = .sw rs rt imm then s.gp[rs.val] else s.fp[rs.val]
          imm := imm } }) ∧
    (s.stage = .EX → exec i s = .next
      { s with
        exmem := { bubble with
          ir := s.idex.ir, aluOutput := s.idex.a + s.idex.imm, b := s.idex.b } }) ∧
    (s.stage = .MEM → s.exmem.aluOutput.toNat + 3 < s.cfg.dmemSize →
      ∃ m : Memory,
        exec i s = .next { s with dmem := m, memwb := { bubble with ir := s.exmem.ir } } ∧
        (∀ x, x < s.exmem.aluOutput.toNat ∨ s.exmem.aluOutput.toNat + 4 ≤ x →
          m.read x = s.dmem.read x) ∧
        (s.dmem.wf = true →
          m.readWord s.exmem.aluOutput.toNat = s.exmem.b ∧ m.wf = true)) ∧
    (s.stage = .MEM → s.cfg.dmemSize ≤ s.exmem.aluOutput.toNat + 3 →
      exec i s = .fault (.dataAddressOutOfRange s.exmem.aluOutput)) ∧
    (s.stage = .WB → exec i s = .next s)

/-- The six conditional branches and `JUMP` in ID, EX, MEM and WB. EX writes the target
`npc + imm` and `cond`, and leaves a redirect pending exactly when the branch is taken; the tests read
the register as a signed number (42_branch_jump.md; D9, D11, D12, D23). -/
def Obligations.BranchStages : Prop :=
  ∀ (rs : Reg) (imm : Word) (i : Instr) (taken : Prop) (s : State),
    (i, taken) ∈ [(Instr.beqz rs imm, s.idex.a.toInt = 0), (.bnez rs imm, s.idex.a.toInt ≠ 0),
      (.bltz rs imm, s.idex.a.toInt < 0), (.bgtz rs imm, 0 < s.idex.a.toInt),
      (.blez rs imm, s.idex.a.toInt ≤ 0), (.bgez rs imm, 0 ≤ s.idex.a.toInt),
      (.jump imm, True)] →
    (s.stage = .ID → exec i s = .next
      { s with
        idex := { bubble with
          ir := s.ifid.ir
          npc := s.ifid.npc
          a := if i = .jump imm then undef else s.gp[rs.val]
          imm := imm } }) ∧
    (s.stage = .EX → taken → exec i s = .next
      { s with
        branchPending := true
        branchTarget := s.idex.npc + s.idex.imm
        exmem := { bubble with
          ir := s.idex.ir
          aluOutput := s.idex.npc + s.idex.imm
          b := s.idex.b
          cond := 1#32 } }) ∧
    (s.stage = .EX → ¬ taken → exec i s = .next
      { s with
        branchPending := false
        exmem := { bubble with
          ir := s.idex.ir
          aluOutput := s.idex.npc + s.idex.imm
          b := s.idex.b
          cond := 0#32 } }) ∧
    (s.stage = .MEM → exec i s = .next
      { s with memwb := { bubble with ir := s.exmem.ir, aluOutput := s.exmem.aluOutput } }) ∧
    (s.stage = .WB → exec i s = .next s)

/-- With `HAS_FP`, `ADDS`, `SUBS`, `MULTS` and `DIVS` in ID, EX, MEM and WB, for every configuration's
numerics; in the default ones they are the IEEE 754 operations (43_fp_arith.md; D13, D14, D28). -/
def Obligations.FpArithmeticStages : Prop :=
  ∀ (fd fs ft : Reg) (i : Instr) (op : FpOp) (s : State), s.cfg.hasFp = true →
    (i, op) ∈ [(Instr.adds fd fs ft, FpOp.add), (.subs fd fs ft, .sub), (.mults fd fs ft, .mul),
      (.divs fd fs ft, .div)] →
    (s.stage = .ID → exec i s = .next
      { s with
        idex := { bubble with
          ir := s.ifid.ir
          npc := s.ifid.npc
          a := s.fp[fs.val]
          b := s.fp[ft.val]
          imm := s.ifid.ir.imm } }) ∧
    (s.stage = .EX → exec i s = .next
      { s with
        exmem := { bubble with
          ir := s.idex.ir
          aluOutput := fpCompute s.cfg op s.idex.a s.idex.b
          b := s.idex.b } }) ∧
    (s.cfg.numerics = .ieee754 → fpCompute s.cfg op s.idex.a s.idex.b =
      match op with
      | .add => ieeeAdd s.idex.a s.idex.b
      | .sub => ieeeSub s.idex.a s.idex.b
      | .mul => ieeeMul s.idex.a s.idex.b
      | .div => ieeeDiv s.idex.a s.idex.b) ∧
    (s.stage = .MEM → exec i s = .next
      { s with memwb := { bubble with ir := s.exmem.ir, aluOutput := s.exmem.aluOutput } }) ∧
    (s.stage = .WB → exec i s = .next { s with fp := s.fp.set fd.val s.memwb.aluOutput })

/-- `EOP` and `NOP` in ID, EX, MEM and WB: neither reads a register, `EOP` leaves `0xFFFFFFFF` and
`NOP` leaves 0 as the ALU value, and `EOP` halts the machine in WB unless a branch is pending
(44_eop_nop_unknown.md; D4, D17, D20, D34). -/
def Obligations.EopAndNopStages : Prop :=
  ∀ s : State,
    (s.stage = .ID →
      exec .eop s = .next
        { s with
          idex := { bubble with
            ir := s.ifid.ir, npc := s.ifid.npc, imm := s.ifid.ir.imm } } ∧
      exec .nop s = .next { s with idex := { bubble with ir := s.ifid.ir } }) ∧
    (s.stage = .EX →
      exec .eop s = .next
        { s with
          exmem := { bubble with
            ir := s.idex.ir, aluOutput := 0xFFFFFFFF#32, b := s.idex.b } } ∧
      exec .nop s = .next
        { s with exmem := { bubble with ir := s.idex.ir, aluOutput := 0#32 } }) ∧
    (s.stage = .MEM → ∀ i ∈ [Instr.eop, .nop], exec i s = .next
      { s with memwb := { bubble with ir := s.exmem.ir, aluOutput := s.exmem.aluOutput } }) ∧
    (s.stage = .WB →
      exec .eop s = .next
        (if s.branchPending = true then s else { s with halted := true }) ∧
      exec .nop s = .next s)

/-- The unknown opcode in every stage: counted, no register read, ALU value `0xFFFFFFFF`, no memory
access, no write; and every floating-point instruction is one without `HAS_FP`
(44_eop_nop_unknown.md, 30_encoding.md section 3; D34, D38). -/
def Obligations.UnknownOpcodeStages : Prop :=
  (∀ (r : Record) (s : State), decodeRecord s.cfg.hasFp r = .unknown →
    execRecord .IF r s = .next
      { s with
        stage := .IF
        fetchedCount := s.fetchedCount + 1#32
        instCount := s.instCount + 1#32 } ∧
    execRecord .ID r s = .next
      { s with
        stage := .ID
        idex := { bubble with ir := s.ifid.ir, npc := s.ifid.npc, imm := s.ifid.ir.imm } } ∧
    execRecord .EX r s = .next
      { s with
        stage := .EX
        exmem := { bubble with
          ir := s.idex.ir, aluOutput := 0xFFFFFFFF#32, b := s.idex.b } } ∧
    execRecord .MEM r s = .next
      { s with
        stage := .MEM
        memwb := { bubble with ir := s.exmem.ir, aluOutput := s.exmem.aluOutput } } ∧
    execRecord .WB r s = .next { s with stage := .WB }) ∧
  (∀ (r : Record) (i : Instr) (s : State), i.opcode.needsFp = true → s.cfg.hasFp = false →
    decodeRecord false r = .unknown → exec i s = execRecord s.stage r s)

/-! ## Instructions, whole

`runAlone r s` takes the record `r`, the one at `pc`, through the five stages: the *architectural
effect* of files 40 to 44. `withoutLatches` leaves out the four latches; everything else the equations
do not name is unchanged. -/

/-- `ADD`, `SUB`, `XOR`, `ADDI` and `SUBI` write their result into the destination register, which may
be a source, and change nothing else but `pc` and the counters (40_integer_alu.md; D10). -/
def Obligations.IntegerAluEffect : Prop :=
  ∀ (r : Record) (rd rs rt : Reg) (imm : Word) (i : Instr) (v : Word) (s : State),
    (i, v) ∈ [(Instr.add rd rs rt, s.readGp rs + s.readGp rt),
      (.sub rd rs rt, s.readGp rs - s.readGp rt),
      (.xor rd rs rt, s.readGp rs ^^^ s.readGp rt),
      (.addi rd rs imm, s.readGp rs + imm), (.subi rd rs imm, s.readGp rs - imm)] →
    decodeRecord s.cfg.hasFp r = .instr i →
    ∃ t, runAlone r s = .next t ∧
      withoutLatches t =
        { withoutLatches s with
          gp := s.gp.set rd.val v
          pc := nextPc s
          fetchedCount := s.fetchedCount + 1#32
          instCount := s.instCount + 1#32 }

/-- `LW` and `LWS` bring the word at `base register + offset`, modulo 2^32, into the destination
register of their file; out of range the run ends in a fault (41_load_store.md; D10, D13, D22,
D25). -/
def Obligations.LoadEffect : Prop :=
  ∀ (r : Record) (rd rs : Reg) (imm : Word) (s : State) (addr : Word),
    addr = effectiveAddress (s.readGp rs) imm →
    (decodeRecord s.cfg.hasFp r = .instr (.lw rd rs imm) ∨
      decodeRecord s.cfg.hasFp r = .instr (.lws rd rs imm)) →
    (inDataMemory s.cfg addr = true → ∃ t, runAlone r s = .next t ∧
      withoutLatches t =
        { withoutLatches s with
          gp := if decodeRecord s.cfg.hasFp r = .instr (.lw rd rs imm) then
              s.gp.set rd.val (s.dmem.readWord addr.toNat)
            else s.gp
          fp := if decodeRecord s.cfg.hasFp r = .instr (.lw rd rs imm) then s.fp
            else s.fp.set rd.val (s.dmem.readWord addr.toNat)
          pc := nextPc s
          fetchedCount := s.fetchedCount + 1#32
          instCount := s.instCount + 1#32 }) ∧
    (inDataMemory s.cfg addr = false →
      runAlone r s = .fault (.dataAddressOutOfRange addr))

/-- `SW` and `SWS` store the data register, of the file their opcode says, at
`base register + offset`, modulo 2^32: the four bytes there are the word, every other byte and every
register is unchanged; out of range the run ends in a fault (41_load_store.md; D8, D10, D13, D14,
D25). The read-back clause has the canonical form of data memory, the model's own representation
(log 25), as its premise. -/
def Obligations.StoreEffect : Prop :=
  ∀ (r : Record) (rs rt : Reg) (imm : Word) (s : State) (addr v : Word),
    addr = effectiveAddress (s.readGp rt) imm →
    ((decodeRecord s.cfg.hasFp r = .instr (.sw rs rt imm) ∧ v = s.readGp rs) ∨
      (decodeRecord s.cfg.hasFp r = .instr (.sws rs rt imm) ∧ v = s.readFp rs)) →
    (inDataMemory s.cfg addr = true → ∃ t, runAlone r s = .next t ∧
      (s.dmem.wf = true → t.dmem.readWord addr.toNat = v) ∧
      (∀ x, x < addr.toNat ∨ addr.toNat + 4 ≤ x → t.dmem.read x = s.dmem.read x) ∧
      withoutLatches t =
        { withoutLatches s with
          dmem := t.dmem
          pc := nextPc s
          fetchedCount := s.fetchedCount + 1#32
          instCount := s.instCount + 1#32 }) ∧
    (inDataMemory s.cfg addr = false →
      runAlone r s = .fault (.dataAddressOutOfRange addr))

/-- A conditional branch or `JUMP` leaves a redirect to `npc + imm` pending when it is taken and none
when it is not; it changes no register and no memory (42_branch_jump.md; D9, D11, D12). -/
def Obligations.BranchEffect : Prop :=
  ∀ (r : Record) (rs : Reg) (imm : Word) (i : Instr) (taken : Prop) (s : State),
    (i, taken) ∈ [(Instr.beqz rs imm, (s.readGp rs).toInt = 0),
      (.bnez rs imm, (s.readGp rs).toInt ≠ 0), (.bltz rs imm, (s.readGp rs).toInt < 0),
      (.bgtz rs imm, 0 < (s.readGp rs).toInt), (.blez rs imm, (s.readGp rs).toInt ≤ 0),
      (.bgez rs imm, 0 ≤ (s.readGp rs).toInt), (.jump imm, True)] →
    decodeRecord s.cfg.hasFp r = .instr i →
    ∃ (t : State) (pending : Bool), runAlone r s = .next t ∧ (pending = true ↔ taken) ∧
      withoutLatches t =
        { withoutLatches s with
          branchPending := pending
          branchTarget := if pending then nextPc s + imm else s.branchTarget
          pc := nextPc s
          fetchedCount := s.fetchedCount + 1#32
          instCount := s.instCount + 1#32 }

/-- `ADDS`, `SUBS`, `MULTS` and `DIVS` write the value of the configuration's operation on the two
floating-point sources, the first one first, and change nothing else but `pc` and the counters
(43_fp_arith.md; D13, D14, D28). -/
def Obligations.FpArithmeticEffect : Prop :=
  ∀ (r : Record) (fd fs ft : Reg) (i : Instr) (op : FpOp) (s : State),
    (i, op) ∈ [(Instr.adds fd fs ft, FpOp.add), (.subs fd fs ft, .sub), (.mults fd fs ft, .mul),
      (.divs fd fs ft, .div)] →
    decodeRecord s.cfg.hasFp r = .instr i →
    ∃ t, runAlone r s = .next t ∧
      withoutLatches t =
        { withoutLatches s with
          fp := s.fp.set fd.val (fpCompute s.cfg op (s.readFp fs) (s.readFp ft))
          pc := nextPc s
          fetchedCount := s.fetchedCount + 1#32
          instCount := s.instCount + 1#32 }

/-- `NOP` and the unknown opcode change `pc` and the counters only; `EOP` is not counted as an
instruction, is recorded as fetched and halts the machine unless a branch is pending
(44_eop_nop_unknown.md; D4, D17, D34, D38). -/
def Obligations.EopNopUnknownEffect : Prop :=
  ∀ (r : Record) (s : State),
    (decodeRecord s.cfg.hasFp r = .instr .nop ∨ decodeRecord s.cfg.hasFp r = .unknown →
      ∃ t, runAlone r s = .next t ∧
        withoutLatches t =
          { withoutLatches s with
            pc := nextPc s
            fetchedCount := s.fetchedCount + 1#32
            instCount := s.instCount + 1#32 }) ∧
    (decodeRecord s.cfg.hasFp r = .instr .eop →
      ∃ t, runAlone r s = .next t ∧
        withoutLatches t =
          { withoutLatches s with
            pc := nextPc s
            fetchedCount := s.fetchedCount + 1#32
            eopFetched := true
            halted := s.halted || !s.branchPending })

/-- A word stored by `SW` or `SWS` and loaded by an `LW` or `LWS` from the same address comes back
unchanged, in the register file of the load, also when the load's base register is another one or the
word moves from one file to the other (20_memory.md sections 1 and 4; 41_load_store.md; D8, D10, D13,
D22). The canonical form of data memory is a premise; it is the model's own representation
(log 25). -/
def Obligations.LoadAfterStoreReturnsWord : Prop :=
  ∀ (r1 r2 : Record) (rs rt rd rb : Reg) (imm imm' v : Word) (s : State), s.dmem.wf = true →
    ((decodeRecord s.cfg.hasFp r1 = .instr (.sw rs rt imm) ∧ v = s.readGp rs) ∨
      (decodeRecord s.cfg.hasFp r1 = .instr (.sws rs rt imm) ∧ v = s.readFp rs)) →
    effectiveAddress (s.readGp rb) imm' = effectiveAddress (s.readGp rt) imm →
    inDataMemory s.cfg (effectiveAddress (s.readGp rt) imm) = true →
    (decodeRecord s.cfg.hasFp r2 = .instr (.lw rd rb imm') →
      ∃ t, andThen (runAlone r1 s) (runAlone r2) = .next t ∧ t.readGp rd = v ∧ t.fp = s.fp) ∧
    (decodeRecord s.cfg.hasFp r2 = .instr (.lws rd rb imm') →
      ∃ t, andThen (runAlone r1 s) (runAlone r2) = .next t ∧ t.readFp rd = v ∧ t.gp = s.gp)

/-! ## The step -/

/-- A step of a running machine is WB, then MEM, EX, ID and IF, and in each stage the record there
contributes `exec` of the instruction it decodes to. From a drained pipeline the step is `exec` of the
instruction at `pc` in IF, after the four other stages have moved the bubbles on, and then the end of
the cycle (45_pipeline_stages.md sections 1 to 7; D1, D2, D9). -/
def Obligations.StepRunsDecodedInstruction : Prop :=
  ∀ s : State,
    (Running s → step s = andThen (wbStage s) (memAndFront s)) ∧
    (∀ i, decodeRecord s.cfg.hasFp s.memwb.ir = .instr i →
      wbStage s = exec i (s.atStage .WB)) ∧
    (∀ i, decodeRecord s.cfg.hasFp s.exmem.ir = .instr i →
      memStage s = exec i ((memProceed s).atStage .MEM)) ∧
    (∀ i, decodeRecord s.cfg.hasFp s.idex.ir = .instr i →
      exStage s = exec i ((releaseUnit s).atStage .EX)) ∧
    (∀ i, s.stallKind ≠ .RAW → decodeRecord s.cfg.hasFp s.ifid.ir = .instr i →
      idStage s = exec i (s.atStage .ID)) ∧
    (∀ r i, fetchRecord s = .ok r → decodeRecord s.cfg.hasFp r = .instr i →
      fetchAt s = exec i ((latchFetch r s).atStage .IF)) ∧
    (∀ r i, Drained s → fetchRecord s = .ok r → decodeRecord s.cfg.hasFp r = .instr i →
      step s =
        andThen
          (exec i ((latchFetch r
            { s with
              memwb := { bubble with aluOutput := s.exmem.aluOutput }
              exmem := exBubble
              idex := bubble }).atStage .IF))
          fun t => .next t.endCycle)

/-- The next step of a machine with a placed word fetches it and runs it as its first instruction: the
record enters `IFID`, `pc` moves past it and it is counted; the registers and data memory are
untouched. About the model's own placement (log 11). -/
def Obligations.PlacedWordRunsFirst : Prop :=
  ∀ (s : State) (nbits w : Nat) (i : Instr),
    decodeRecord s.cfg.hasFp (tableRecord nbits w) = .instr i →
    ∃ t, step (s.withFetchWord nbits w) = .next t ∧
      t.ifid = { bubble with ir := tableRecord nbits w, npc := s.pc + 4#32 } ∧
      t.pc = s.pc + 4#32 ∧ t.gp = s.gp ∧ t.fp = s.fp ∧ t.dmem = s.dmem ∧
      t.cycle = s.cycle + 1#32 ∧ t.fetchedCount = s.fetchedCount + 1#32 ∧
      t.instCount = (if i = .eop then s.instCount else s.instCount + 1#32) ∧
      t.eopFetched = decide (i = .eop) ∧ t.totalStalls = s.totalStalls

/-- The cycle driver outside a run: a machine with no program is refused, a halted one stays as it
is, and `run(a)` then `run(b)` is `run(a + b)` (45_pipeline_stages.md section 1; D31). -/
def Obligations.DriverLaws : Prop :=
  ∀ s : State,
    (s.loaded = false → step s = .refused .runBeforeLoad) ∧
    (s.loaded = true → s.halted = true → ∀ n, runCycles n s = .next s) ∧
    (∀ a b, runCycles (a + b) s = andThen (runCycles a s) (runCycles b))

/-- In a memory wait cycle EX does nothing: `EXMEM` is held, no unit is requested, the unit held and
the redirect are untouched, and the counts of the units only count down at the end of the cycle; the
latches behind do not advance (R160). -/
def Obligations.ExHoldsDuringMemoryWait : Prop :=
  ∀ s t : State, Running s → memWaits s = true → step s = .next t →
    t.exmem = s.exmem ∧ t.idex = s.idex ∧ t.ifid = s.ifid ∧
    t.exUnit = s.exUnit ∧ t.units = s.units.map FunctionalUnit.tick ∧
    t.branchPending = s.branchPending ∧ t.branchTarget = s.branchTarget

/-- The two kinds of frozen cycle. In a memory wait cycle no access is made and `MEMWB` takes a
bubble; in an EX wait cycle MEM acts as usual and `EXMEM` takes `EXBUBBLE`. In both `IDEX`, `IFID` and
`pc` are held, nothing is fetched, and one stall is counted. The hazard handler runs: a stall in
progress is neither counted down nor released; with none in progress the RAW or the BRANCH stall of
the record in `IFID` is set, with its whole count still to go, or none is
(45_pipeline_stages.md sections 3, 4, 7; 46_hazard_unit.md section 2; D15, D16, D18, D19, D20). -/
def Obligations.FrozenCycles : Prop :=
  ∀ s t : State, Running s → step s = .next t →
    (memWaits s = true →
      t.memwb = bubble ∧ t.dmem = s.dmem ∧ t.memStall = true ∧
      t.memCnt + 1 = memCountdown s) ∧
    (memWaits s = false → exDone (acquireUnit s) = false →
      t.exmem = exBubble ∧ t.exUnit = (acquireUnit s).exUnit ∧
      t.units = (acquireUnit s).units.map FunctionalUnit.tick ∧
      t.branchPending = s.branchPending ∧
      ∃ u, memStage s = .next u ∧ t.memwb = u.memwb ∧ t.dmem = u.dmem) ∧
    (¬ Unfrozen s →
      t.idex = s.idex ∧ t.ifid = s.ifid ∧ t.pc = s.pc ∧
      t.fetchedCount = s.fetchedCount ∧ t.instCount = s.instCount ∧
      t.totalStalls = s.totalStalls + 1#32 ∧
      (s.stallKind ≠ .NONE →
        t.stallKind = s.stallKind ∧ t.stallRem = s.stallRem ∧ t.stallSize = s.stallSize) ∧
      (s.stallKind = .NONE → SetsStall s t.stallKind t.stallRem t.stallSize))

/-- A load or store that enters `EXMEM` waits exactly `DMEM_LATENCY` cycles there: for every smaller
number of cycles the machine is still held with the access to come, and after that number MEM no
longer waits (45_pipeline_stages.md section 3; D40). -/
def Obligations.MemoryWaitLastsLatency : Prop :=
  ∀ (s : State) (k : Nat), Running s → RegistersInv s →
    isMem s.cfg.hasFp s.exmem.ir = true → 0 < s.cfg.dmemLatency → s.memStall = false →
    ¬ (isEop s s.memwb ∧ s.branchPending = false) → k ≤ s.cfg.dmemLatency →
    ∃ t, runCycles k s = .next t ∧
      t.exmem = s.exmem ∧ t.idex = s.idex ∧ t.ifid = s.ifid ∧ t.pc = s.pc ∧ t.dmem = s.dmem ∧
      t.totalStalls = s.totalStalls + BitVec.ofNat 32 k ∧
      t.cycle = s.cycle + BitVec.ofNat 32 k ∧
      memWaits t = decide (k < s.cfg.dmemLatency)

/-- The functional unit of an instruction. The class of every opcode; `get_free_unit` gives the least
index of an idle unit of the kind, and none when there is none, and then EX waits. An instruction of
a class takes the first idle unit of the class and is held in EX for exactly its latency: it waits
`latency - 1` cycles, sending bubbles ahead, and is done in the next one. It may have an `EOP` right
behind it, and a load or store right ahead of it whose access is made in the first of these cycles
(47_functional_units.md; D12, D16, D17). -/
def Obligations.UnitLatencyHoldsEx : Prop :=
  (∀ r : Record,
    (unitClass true r = some .INTEGER ↔
      r.op true ∈ [some .ADD, some .ADDI, some .SUB, some .SUBI, some .XOR, some .LW, some .SW,
        some .LWS, some .SWS, some .BEQZ, some .BNEZ, some .BLTZ, some .BGTZ, some .BLEZ,
        some .BGEZ, some .JUMP]) ∧
    (unitClass true r = some .ADDER ↔ r.op true ∈ [some .ADDS, some .SUBS]) ∧
    (unitClass true r = some .MULTIPLIER ↔ r.op true = some .MULTS) ∧
    (unitClass true r = some .DIVIDER ↔ r.op true = some .DIVS) ∧
    (unitClass true r = none ↔ r.op true ∈ [some .NOP, some .EOP, none])) ∧
  (∀ (need : UnitKind) (us : List FunctionalUnit),
    (∀ j, freeUnit need us = some j ↔
      (∃ u, us[j]? = some u ∧ u.kind = need ∧ u.busy = 0) ∧
      ∀ i < j, ∀ v, us[i]? = some v → v.kind = need → v.busy ≠ 0) ∧
    (freeUnit need us = none ↔ ∀ v ∈ us, v.kind = need → v.busy ≠ 0)) ∧
  (∀ (s : State) (need : UnitKind),
    unitClass s.cfg.hasFp s.idex.ir = some need → s.exUnit = none →
    freeUnit need s.units = none → acquireUnit s = s ∧ exDone (acquireUnit s) = false) ∧
  (∀ (s : State) (need : UnitKind) (j k : Nat) (u : FunctionalUnit),
    Running s → RegistersInv s → EopInv s → memWaits s = false →
    (isMem s.cfg.hasFp s.exmem.ir = true → s.exmem.aluOutput.toNat + 3 < s.cfg.dmemSize) →
    unitClass s.cfg.hasFp s.idex.ir = some need → s.exUnit = none →
    freeUnit need s.units = some j → s.units[j]? = some u → k < u.latency →
    ∃ t, runCycles k s = .next t ∧
      t.idex = s.idex ∧ t.ifid = s.ifid ∧ t.pc = s.pc ∧
      t.totalStalls = s.totalStalls + BitVec.ofNat 32 k ∧
      (0 < k → t.exmem = exBubble ∧ t.exUnit = some j ∧ busyOf t.units j + k = u.latency ∧
        (t.units[j]?).map FunctionalUnit.instruction = some s.idex.ir) ∧
      (acquireUnit t).exUnit = some j ∧
      exDone (acquireUnit t) = decide (k + 1 = u.latency))

/-- What the hazard handler makes of the stall state in an unfrozen cycle, and what that makes ID and
IF do. With no stall in progress it sets one as `SetsStall` says, RAW before BRANCH. A stall with
cycles to go stays. A stall with none to go is released: its size is added to `total_stalls`, and a
branch in `IFID` starts a fresh BRANCH stall of 2. Then: no stall: `IFID` is decoded, with the registers as WB has left them, and IF fetches, or inserts a bubble
after an `EOP`. RAW: a bubble into `IDEX`, `IFID` and `pc` held. BRANCH: `IFID` is decoded, a bubble
into `IFID`, `pc` held. A stall is counted down once, also in the cycle that sets it
(46_hazard_unit.md sections 1 and 2; D2, D4, D14, D15, D29). -/
def Obligations.StallStateGovernsDecodeAndFetch : Prop :=
  ∀ s h t : State, Running s → Unfrozen s → h = hazardHandler s false s → step s = .next t →
    (s.stallKind = .NONE → SetsStall s h.stallKind h.stallRem h.stallSize ∧
      h.totalStalls = s.totalStalls) ∧
    (s.stallKind ≠ .NONE → s.stallRem ≠ 0 → h = s) ∧
    (s.stallKind ≠ .NONE → s.stallRem = 0 →
      h.totalStalls = s.totalStalls + BitVec.ofNat 32 s.stallSize ∧
      (isBranch s.cfg.hasFp s.ifid.ir = true →
        h.stallKind = .BRANCH ∧ h.stallRem = 2 ∧ h.stallSize = 2) ∧
      (isBranch s.cfg.hasFp s.ifid.ir = false →
        h.stallKind = .NONE ∧ h.stallRem = 0 ∧ h.stallSize = 0)) ∧
    t.stallSize = h.stallSize ∧ t.totalStalls = h.totalStalls ∧
    (h.stallKind = .NONE →
      (∃ u v, wbStage s = .next u ∧ execRecord .ID s.ifid.ir u = .next v ∧ t.idex = v.idex) ∧
      t.stallKind = .NONE ∧ t.stallRem = h.stallRem ∧
      (s.eopFetched = true → t.ifid = bubble ∧ t.pc = s.pc) ∧
      (s.eopFetched = false →
        ∃ r ∈ s.imem, t.ifid = { bubble with ir := r, npc := t.pc } ∧
          t.fetchedCount = s.fetchedCount + 1#32)) ∧
    (h.stallKind = .RAW →
      t.idex = bubble ∧ t.ifid = s.ifid ∧ t.pc = s.pc ∧
      t.stallKind = .RAW ∧ t.stallRem = h.stallRem - 1) ∧
    (h.stallKind = .BRANCH →
      (∃ u v, wbStage s = .next u ∧ execRecord .ID s.ifid.ir u = .next v ∧ t.idex = v.idex) ∧
      t.ifid = bubble ∧ t.pc = s.pc ∧
      t.stallKind = .BRANCH ∧ t.stallRem = h.stallRem - 1)

/-- A fetch takes the redirect that EX has left in this same cycle, if there is one: the address `p`
fetched at is the branch target if a redirect is pending after EX, else `pc`; the record is the one
at index `(p - base) / 4`, `pc` and `IFID.npc` then hold `base + 4 * (index + 1)`, and no redirect
stays pending (45_pipeline_stages.md sections 4 and 6; 42_branch_jump.md; D9, D27, D36). -/
def Obligations.FetchFollowsRedirect : Prop :=
  ∀ s t : State, Running s → Unfrozen s → (hazardHandler s false s).stallKind = .NONE →
    s.eopFetched = false → step s = .next t →
    ∃ u r, exStage (acquireUnit s) = .next u ∧ u.pc = s.pc ∧
      fetchRecord (redirect u) = .ok r ∧
      t.ifid.ir = r ∧ t.pc = nextPc (redirect u) ∧ t.ifid.npc = t.pc ∧
      t.branchPending = false ∧
      ∃ p : Word, p = (if u.branchPending = true then u.branchTarget else s.pc) ∧
        (p - s.base).toNat % 4 = 0 ∧
        s.imem[(p - s.base).toNat / 4]? = some t.ifid.ir ∧
        t.pc = s.base + 4#32 * BitVec.ofNat 32 ((p - s.base).toNat / 4 + 1)

/-- What one cycle does to the counters, the end-of-program bit and `pc`. `cycle` advances by one.
Either nothing is fetched, and the fetch counters, `pc` and the bit stay; or, only before an `EOP` was
fetched, one record is, from the `pc` that a redirect left by EX may have changed: `pc` and
`IFID.npc` take the address after it, and `inst_count` counts it unless it is an `EOP`, which sets
the bit. A frozen cycle counts one stall, an unfrozen one the size of the stall it releases
(60_exceptions.md section 2; D4, D18, D29, D30, D41). -/
def Obligations.CountersPerCycle : Prop :=
  ∀ s t : State, Running s → step s = .next t →
    t.cycle = s.cycle + 1#32 ∧
    ((t.fetchedCount = s.fetchedCount ∧ t.instCount = s.instCount ∧ t.pc = s.pc ∧
        t.eopFetched = s.eopFetched) ∨
      (s.eopFetched = false ∧ t.fetchedCount = s.fetchedCount + 1#32 ∧
        (∃ u, exStage (acquireUnit s) = .next u ∧ t.pc = nextPc (redirect u)) ∧
        t.ifid.npc = t.pc ∧
        t.eopFetched = decide (t.ifid.ir.op t.cfg.hasFp = some .EOP) ∧
        t.instCount = if t.eopFetched then s.instCount else s.instCount + 1#32)) ∧
    t.totalStalls = s.totalStalls +
      (if Unfrozen s then
        if s.stallKind ≠ .NONE ∧ s.stallRem = 0 then BitVec.ofNat 32 s.stallSize else 0#32
       else 1#32)

/-- Stores never reach instruction memory: no cycle changes it, and of the host's calls only
`load_program` and `reset` do (20_memory.md section 4, R74). No cycle changes `base` either
(10_state.md section 2, R25; D37). -/
def Obligations.InstructionMemoryNeverStoredTo : Prop :=
  (∀ s t : State, step s = .next t → t.imem = s.imem ∧ t.base = s.base) ∧
  (∀ (n : Nat) (s t : State), runCycles n s = .next t → t.imem = s.imem) ∧
  (∀ (i : Nat) (v : Word) (s : State), (setGpRegister i v s).imem = s.imem) ∧
  (∀ (i : Nat) (v : Word) (s t : State), setFpRegister i v s = .next t → t.imem = s.imem) ∧
  (∀ (a v : Word) (s t : State), writeMemory a v s = .next t → t.imem = s.imem) ∧
  (∀ (k : UnitKind) (l n : Nat) (s t : State),
    initExecUnit k l n s = .next t → t.imem = s.imem)

/-- WB writes the register of the table, or none, and is the only writer of the register files in a
cycle, frozen or not: whatever a step does, the two files after it are those after WB
(45_pipeline_stages.md section 2). -/
def Obligations.OnlyWritebackWritesRegisters : Prop :=
  ∀ s : State,
    (∀ t, Running s → step s = .next t →
      ∃ u, wbStage s = .next u ∧ t.gp = u.gp ∧ t.fp = u.fp) ∧
    (∀ rd rs rt : Reg, ∀ imm : Word,
      ∀ i ∈ [Instr.add rd rs rt, .addi rd rs imm, .sub rd rs rt, .subi rd rs imm, .xor rd rs rt],
      decodeRecord s.cfg.hasFp s.memwb.ir = .instr i →
      wbStage s = .next
        { s with stage := .WB, gp := s.gp.set rd.val s.memwb.aluOutput }) ∧
    (∀ rd rs : Reg, ∀ imm : Word,
      decodeRecord s.cfg.hasFp s.memwb.ir = .instr (.lw rd rs imm) →
      wbStage s = .next { s with stage := .WB, gp := s.gp.set rd.val s.memwb.lmd }) ∧
    (∀ fd rs : Reg, ∀ imm : Word,
      decodeRecord s.cfg.hasFp s.memwb.ir = .instr (.lws fd rs imm) →
      wbStage s = .next { s with stage := .WB, fp := s.fp.set fd.val s.memwb.lmd }) ∧
    (∀ fd fs ft : Reg,
      ∀ i ∈ [Instr.adds fd fs ft, .subs fd fs ft, .mults fd fs ft, .divs fd fs ft],
      decodeRecord s.cfg.hasFp s.memwb.ir = .instr i →
      wbStage s = .next
        { s with stage := .WB, fp := s.fp.set fd.val s.memwb.aluOutput }) ∧
    (∀ rs rt : Reg, ∀ imm : Word,
      ∀ i ∈ [Instr.sw rs rt imm, .sws rs rt imm, .beqz rs imm, .bnez rs imm, .bltz rs imm,
        .bgtz rs imm, .blez rs imm, .bgez rs imm, .jump imm, .nop],
      decodeRecord s.cfg.hasFp s.memwb.ir = .instr i →
      wbStage s = .next { s with stage := .WB }) ∧
    (decodeRecord s.cfg.hasFp s.memwb.ir = .unknown →
      wbStage s = .next { s with stage := .WB }) ∧
    (decodeRecord s.cfg.hasFp s.memwb.ir = .instr .eop →
      ∃ h, wbStage s = .next { s with stage := .WB, halted := h })

/-- A cycle halts the machine exactly when the record in `MEMWB` is an `EOP` and no branch was pending
at its start (R156). -/
def Obligations.HaltExactlyAtCommittedEop : Prop :=
  ∀ s t : State, Running s → step s = .next t →
    (t.halted = true ↔ s.memwb.ir.op s.cfg.hasFp = some .EOP ∧ s.branchPending = false)

/-- One cycle changes data memory only by the access of a store in `EXMEM` that does not wait, and
then exactly the four bytes at the address in `EXMEM`, which take the word in `EXMEM`
(20_memory.md sections 1 and 4; D19, D22, D25). The invariant that the read-back has as its premise
holds the canonical form of data memory, the model's own representation (log 25). -/
def Obligations.DataMemoryChangesOnlyByStores : Prop :=
  ∀ s t : State, Running s → step s = .next t →
    (memWaits s = false ∧ isStore (s.exmem.ir.op s.cfg.hasFp) = true →
      (MemoryInv s → t.dmem.readWord s.exmem.aluOutput.toNat = s.exmem.b) ∧
      ∀ x, x < s.exmem.aluOutput.toNat ∨ s.exmem.aluOutput.toNat + 4 ≤ x →
        t.dmem.read x = s.dmem.read x) ∧
    (¬ (memWaits s = false ∧ isStore (s.exmem.ir.op s.cfg.hasFp) = true) → t.dmem = s.dmem)

/-- Without `HAS_FP` there is no unit table: construction gives none, `init_exec_unit` is refused, no
record needs a unit, so that every instruction is done in its first cycle in EX, and no step gives the
machine a unit to hold or changes an empty table (47_functional_units.md, R227) or the floating-point
file (10_state.md section 1, R22). That the table and the file stand in State without `HAS_FP`, out of
reach, and that a refusal stands for a call that does not exist, is the model's reading (log 16). -/
def Obligations.WithoutFpNoUnits : Prop :=
  ∀ s : State, s.cfg.hasFp = false →
    (construct s.cfg).units = [] ∧ (construct s.cfg).exUnit = none ∧
    (∀ (k : UnitKind) (l n : Nat), initExecUnit k l n s = .refused .unitsWithoutFp) ∧
    (∀ r, unitClass s.cfg.hasFp r = none) ∧
    exDone (acquireUnit s) = true ∧
    (∀ (n : Nat) (t : State), runCycles n s = .next t →
      t.cfg = s.cfg ∧ t.fp = s.fp ∧ (s.units = [] → t.units = []) ∧
      (s.exUnit = none → t.exUnit = none))

/-! ## Hazards -/

/-- When producers in more than one latch match, the nearest one decides, and its count is the
largest of the counts that apply (R204). -/
def Obligations.NearestProducerDecides : Prop :=
  ∀ (b : Bool) (c idex exmem memwb : Record),
    (rowOneProducer b idex = true ∧ matchesSrc b idex c = true →
      raw b c idex exmem memwb = 2) ∧
    (¬ (rowOneProducer b idex = true ∧ matchesSrc b idex c = true) →
      rowThreeProducer b exmem = true ∧ matchesSrc b exmem c = true →
      raw b c idex exmem memwb = 1) ∧
    (¬ (rowOneProducer b idex = true ∧ matchesSrc b idex c = true) →
      ¬ (rowThreeProducer b exmem = true ∧ matchesSrc b exmem c = true) →
      rowFourProducer b memwb = true ∧ matchesSrc b memwb c = true →
      raw b c idex exmem memwb = 1) ∧
    (rowThreeProducer b exmem = true ∧ matchesSrc b exmem c = true ∨
      rowFourProducer b memwb = true ∧ matchesSrc b memwb c = true →
      1 ≤ raw b c idex exmem memwb) ∧
    raw b c idex exmem memwb ≤ 2

/-- ID reads no register outside `srcs`: two states that agree there and on `IFID` and the
configuration decode to the same `IDEX` (46_hazard_unit.md section 1; D14). -/
def Obligations.DecodeReadsOnlySources : Prop :=
  ∀ s t : State, s.cfg = t.cfg → s.ifid = t.ifid →
    (∀ x ∈ srcs s.cfg.hasFp s.ifid.ir, registerValue s x = registerValue t x) →
    ∀ s' t', execRecord .ID s.ifid.ir s = .next s' → execRecord .ID t.ifid.ir t = .next t' →
      s'.idex = t'.idex

/-- The hazard table covers every register write: a record whose WB changes a register is a producer
of rows 1, 3 and 4, in the file it writes, and changes the register in its `dest` field only
(46_hazard_unit.md sections 1 and 3; D13). -/
def Obligations.HazardTableCoversEveryWrite : Prop :=
  ∀ s t : State, wbStage s = .next t → ∀ x : RegFile × Word,
    registerValue t x ≠ registerValue s x →
    x = (destFile s.cfg.hasFp s.memwb.ir, s.memwb.ir.dest) ∧
    rowOneProducer s.cfg.hasFp s.memwb.ir = true ∧
    rowThreeProducer s.cfg.hasFp s.memwb.ir = true ∧
    rowFourProducer s.cfg.hasFp s.memwb.ir = true

/-! ## Invariants and whole runs -/

/-- Every step keeps the latch invariant: the fields that the opcode in a latch does not use there
hold `UNDEF` (10_state.md section 4; D14, D20, D22, D23, D34). -/
def Obligations.StepKeepsLatchInv : Prop :=
  ∀ s t : State, LatchInv s → step s = .next t → LatchInv t

/-- Every step keeps the control state of the pipeline consistent: the stall state, a branch and its
two bubbles, the memory wait, the unit held, the drain after an `EOP`, and the account of cycles
(45_pipeline_stages.md section 7, 46_hazard_unit.md, 47_functional_units.md; D2 to D4, D12, D15 to
D20, D29, D30, D40, D41; log 27 for the record an idle unit holds). -/
def Obligations.StepKeepsPipelineInv : Prop :=
  ∀ s t : State, PipelineInv s → step s = .next t → PipelineInv t

/-- Where every record names registers that exist, as `load_program` demands, it stays so, and no step
of a loaded machine is refused (30_encoding.md section 2; D26, D31). -/
def Obligations.LoadedMachineIsNeverRefused : Prop :=
  ∀ s : State, s.loaded = true → RegistersInv s →
    (∀ t, step s = .next t → t.loaded = true ∧ RegistersInv t) ∧
    (∀ q, step s ≠ .refused q)

/-- When a step ends in a fault, and in which. A data fault: exactly when a load or store that does not
wait has its four bytes not all in data memory. A fetch fault: exactly when there is no data fault and
an unfrozen, unstalled cycle before the `EOP` fetches, after the redirect that EX may have left, at a
`pc` that is not a multiple of 4 from `base`, or else is at or past the end of the program; the fault
names that `pc` (20_memory.md sections 1 and 3; D25, D27). That the two fetch faults have names of
their own, the misaligned one first, is the model's choice (log 9). -/
def Obligations.FaultsExactlyOutsideTheRules : Prop :=
  ∀ s : State, Running s → RegistersInv s →
    let dataFault :=
      isMem s.cfg.hasFp s.exmem.ir = true ∧ memWaits s = false ∧
        s.cfg.dmemSize ≤ s.exmem.aluOutput.toNat + 3
    let fetches :=
      Unfrozen s ∧ s.eopFetched = false ∧ (hazardHandler s false s).stallKind = .NONE
    (∀ a, step s = .fault (.dataAddressOutOfRange a) ↔ a = s.exmem.aluOutput ∧ dataFault) ∧
    ∃ u, exStage (acquireUnit s) = .next u ∧
      (∀ p, step s = .fault (.fetchMisaligned p) ↔
        ¬ dataFault ∧ fetches ∧ p = (redirect u).pc ∧ (p - s.base).toNat % 4 ≠ 0) ∧
      (∀ p, step s = .fault (.fetchOutsideProgram p) ↔
        ¬ dataFault ∧ fetches ∧ p = (redirect u).pc ∧ (p - s.base).toNat % 4 = 0 ∧
          s.imem.length ≤ (p - s.base).toNat / 4)

/-- The end of a run: whatever program, base, units, latency, seeded registers and memory it started
from, a machine that has halted has counted `inst_count + 5 + total_stalls` cycles; its latches hold
the bubbles of a drained pipeline, nothing is stalled, pending, waiting or busy, and `pc` is the
address after the `EOP` that was fetched (70_reset_and_hazards.md section 3; D3, D4, D29). -/
def Obligations.HaltedRunAccountsForEveryCycle : Prop :=
  ∀ (s t : State) (n : Nat), FreshlyLoaded s → runCycles n s = .next t → t.halted = true →
    t.cycle = t.instCount + 5#32 + t.totalStalls ∧
    t.fetchedCount = t.instCount + 1#32 ∧ t.eopFetched = true ∧
    t.ifid = bubble ∧ t.idex = bubble ∧ t.exmem = exBubble ∧ t.memwb = exBubble ∧
    t.stallKind = .NONE ∧ t.branchPending = false ∧ t.memStall = false ∧ t.exUnit = none ∧
    (∀ u ∈ t.units, u.busy = 0) ∧
    ∃ k r, t.imem[k]? = some r ∧ r.op t.cfg.hasFp = some .EOP ∧
      t.pc = t.base + 4#32 * BitVec.ofNat 32 (k + 1)

/-- The pipeline preserves the sequential reading of its program: a run that halts leaves the register
files, data memory, `pc` and the instruction count of executing the records one at a time, each to
completion before the next, whatever the memory latency and the unit table are
(45_pipeline_stages.md section 7 item 7, 70_reset_and_hazards.md section 3; D1, D2, D12 to D15). -/
def Obligations.PipelinePreservesSequentialReading : Prop :=
  ∀ s t : State, FreshlyLoaded s → RunsToHalt s t →
    ∃ (n : Nat) (u : State), runSequential n s = .next u ∧ u.halted = true ∧
      t.gp = u.gp ∧ t.fp = u.fp ∧ t.dmem = u.dmem ∧ t.pc = u.pc ∧ t.instCount = u.instCount

/-! ## The host's calls -/

/-- `write_memory(a, v)` is the store of a word by the host, with the range condition of a store: in
range the four bytes at `a` take `v` and nothing else changes; out of range the call is refused
(70_reset_and_hazards.md section 2, R276; D25). The canonical form of data memory, the premise of the
read-back clause, and that the call keeps it, are about the model's own representation (log 25). -/
def Obligations.HostWriteMemory : Prop :=
  ∀ (a v : Word) (s : State),
    (a.toNat + 3 < s.cfg.dmemSize →
      ∃ m : Memory, writeMemory a v s = .next { s with dmem := m } ∧
        (∀ x, x < a.toNat ∨ a.toNat + 4 ≤ x → m.read x = s.dmem.read x) ∧
        (s.dmem.wf = true → m.readWord a.toNat = v ∧ m.wf = true)) ∧
    (s.cfg.dmemSize ≤ a.toNat + 3 → writeMemory a v s = .refused .hostWriteOutOfRange)

/-- `init_exec_unit` appends idle units and `load_program` places a program at `base` with `pc` there;
each changes nothing else, and is refused where it is outside the rules: of the capacities
`MAX_UNITS` and `IMEM_CAPACITY`, where there is one, a table or a program of exactly that size is
taken and a larger one refused (70_reset_and_hazards.md section 1; 47_functional_units.md; D16, D26,
D31, D35, D37). That `init_exec_unit` is taken whenever no program is loaded, also after a `reset` that
follows a load, is the model's choice (log 29). -/
def Obligations.HostConfiguresAndLoads : Prop :=
  (∀ (k : UnitKind) (l n : Nat) (s : State), s.cfg.hasFp = true →
    (s.loaded = false → 0 < l → (∀ m ∈ s.cfg.maxUnits, s.units.length + n ≤ m) →
      initExecUnit k l n s = .next
        { s with units := s.units ++ List.replicate n ⟨k, l, 0, nopRec, nopRec⟩ }) ∧
    (s.loaded = true → initExecUnit k l n s = .refused .unitAfterLoad) ∧
    (s.loaded = false → l = 0 → initExecUnit k l n s = .refused .unitLatencyZero) ∧
    (s.loaded = false → 0 < l → (∃ m ∈ s.cfg.maxUnits, m < s.units.length + n) →
      initExecUnit k l n s = .refused .tooManyUnits)) ∧
  (∀ (records : List Record) (base : Word) (s : State),
    (s.loaded = true → loadProgram records base s = .refused .loadWithoutReset) ∧
    (s.loaded = false → (∃ m ∈ s.cfg.imemCapacity, m < records.length) →
      loadProgram records base s = .refused .programTooLong) ∧
    (s.loaded = false → (∀ m ∈ s.cfg.imemCapacity, records.length ≤ m) →
      (∃ r ∈ records, ∃ f v, decodeRecord s.cfg.hasFp r = .badRegister f v) →
      loadProgram records base s = .refused .registerOutOfRange) ∧
    (s.loaded = false → (∀ m ∈ s.cfg.imemCapacity, records.length ≤ m) →
      (∀ r ∈ records, ∀ f v, decodeRecord s.cfg.hasFp r ≠ .badRegister f v) →
      loadProgram records base s = .next
        { s with imem := records, base := base, pc := base, loaded := true }))

/-- The register accessors: a value set is the value got, no other register changes; an index of 32 or
more reads as `UNDEF` and sets nothing; without `HAS_FP` the floating-point calls do not exist
(60_exceptions.md section 4; D44). -/
def Obligations.RegisterAccessors : Prop :=
  ∀ (i j : Nat) (v : Word) (s : State),
    getGpRegister j (setGpRegister i v s) =
      (if j = i ∧ i < 32 then v else getGpRegister j s) ∧
    { setGpRegister i v s with gp := s.gp } = s ∧
    (32 ≤ j → getGpRegister j s = undef) ∧
    (s.cfg.hasFp = false →
      setFpRegister i v s = .refused .fpRegisterWithoutFp ∧ getFpRegister i s = none) ∧
    (s.cfg.hasFp = true → ∃ t, setFpRegister i v s = .next t ∧
      getFpRegister j t = (if j = i ∧ i < 32 then some v else getFpRegister j s) ∧
      { t with fp := s.fp } = s ∧ (32 ≤ j → getFpRegister j s = some undef))

/-- The observation port: each named field of a stage's entrance latch that the stage reads, `UNDEF`
for every other pair, and after reset `UNDEF` for every pair but the records; `get_sp_register` gives
that for a name and a stage of the lists and `UNDEF` for any other. The counters as the host reads
them: `get_clock_cycles` is `cycle` and `get_stalls` is `total_stalls`, not the other way round,
`get_instructions_executed` is `inst_count`, and `get_IPC` after a first cycle is the exact pair
`inst_count / cycle` (60_exceptions.md sections 2 and 4, 10_state.md section 5; D29, D32, D33, D41,
D43, D44). -/
def Obligations.ObservationPort : Prop :=
  ∀ s : State,
    spRegister s .PC .IF = .word s.pc ∧
    spRegister s .NPC .ID = .word s.ifid.npc ∧ spRegister s .IR .ID = .record s.ifid.ir ∧
    spRegister s .NPC .EX = .word s.idex.npc ∧ spRegister s .IR .EX = .record s.idex.ir ∧
    spRegister s .A .EX = .word s.idex.a ∧ spRegister s .B .EX = .word s.idex.b ∧
    spRegister s .IMM .EX = .word s.idex.imm ∧
    spRegister s .IR .MEM = .record s.exmem.ir ∧ spRegister s .B .MEM = .word s.exmem.b ∧
    spRegister s .COND .MEM = .word s.exmem.cond ∧
    spRegister s .ALU_OUTPUT .MEM = .word s.exmem.aluOutput ∧
    spRegister s .IR .WB = .record s.memwb.ir ∧
    spRegister s .ALU_OUTPUT .WB = .word s.memwb.aluOutput ∧
    spRegister s .LMD .WB = .word s.memwb.lmd ∧
    (∀ n g, (n, g) ∉ [(FieldName.PC, Stage.IF), (.NPC, .ID), (.IR, .ID), (.NPC, .EX), (.IR, .EX),
        (.A, .EX), (.B, .EX), (.IMM, .EX), (.IR, .MEM), (.B, .MEM), (.COND, .MEM),
        (.ALU_OUTPUT, .MEM), (.IR, .WB), (.ALU_OUTPUT, .WB), (.LMD, .WB)] →
      spRegister s n g = .word undef) ∧
    (∀ n g, n ≠ .IR → spRegister s.resetMachine n g = .word undef) ∧
    (∀ n g, getSpRegister (some n) (some g) s = spRegister s n g) ∧
    (∀ n g, getSpRegister none g s = .word undef ∧ getSpRegister n none s = .word undef) ∧
    getClockCycles s = s.cycle ∧ getInstructionsExecuted s = s.instCount ∧
    getStalls s = s.totalStalls ∧
    (s.cycle ≠ 0#32 → getIpc s = (s.instCount.toNat, s.cycle.toNat))

/-! ## Floating-point numerics -/

/-- Results of the default numerics on fixed operands, from the spec's vectors F1 to F12
(95_test_vectors.md; D28). A sanity statement. -/
def Obligations.IeeeVectors : Prop :=
  ieeeAdd 0x3FC00000#32 0x40200000#32 = 0x40800000#32 ∧
  ieeeSub 0x3FC00000#32 0x40200000#32 = 0xBF800000#32 ∧
  ieeeMul 0x3FC00000#32 0x40200000#32 = 0x40700000#32 ∧
  ieeeDiv 0x3FC00000#32 0x40200000#32 = 0x3F19999A#32 ∧
  ieeeDiv 0x3F800000#32 0x00000000#32 = 0x7F800000#32 ∧
  ieeeDiv 0xBF800000#32 0x00000000#32 = 0xFF800000#32 ∧
  ieeeMul 0x7F7FFFFF#32 0x40000000#32 = 0x7F800000#32 ∧
  ieeeMul 0x00800000#32 0x3F000000#32 = 0x00400000#32 ∧
  ieeeAdd 0x3F800000#32 0x33800000#32 = 0x3F800000#32 ∧
  ieeeAdd 0x3F800001#32 0x33800000#32 = 0x3F800002#32 ∧
  ieeeAdd 0x3F800000#32 0x33800001#32 = 0x3F800001#32 ∧
  ieeeAdd 0x3F19999A#32 0x3FC00000#32 = 0x40066666#32

/-- When the result of the default numerics is a NaN: a NaN operand, or an invalid operation
(`inf - inf`, `0 * inf`, `0 / 0`, `inf / inf`), and in no other case. It holds for every choice of the
free NaN pattern (43_fp_arith.md; D28, log 7). -/
def Obligations.NanExactlyWhenInvalid : Prop :=
  ∀ a b : Word,
    (isNaN (ieeeAdd a b) = true ↔ isNaN a = true ∨ isNaN b = true ∨
      (isInfinite a = true ∧ isInfinite b = true ∧ a ≠ b)) ∧
    (isNaN (ieeeSub a b) = true ↔ isNaN a = true ∨ isNaN b = true ∨
      (isInfinite a = true ∧ isInfinite b = true ∧ a = b)) ∧
    (isNaN (ieeeMul a b) = true ↔ isNaN a = true ∨ isNaN b = true ∨
      (isInfinite a = true ∧ magnitude b = 0) ∨ (magnitude a = 0 ∧ isInfinite b = true)) ∧
    (isNaN (ieeeDiv a b) = true ↔ isNaN a = true ∨ isNaN b = true ∨
      (isInfinite a = true ∧ isInfinite b = true) ∨ (magnitude a = 0 ∧ magnitude b = 0))

/-- The default numerics on finite operands round the exact sum, difference, product and quotient to
nearest, ties to even, and overflow to an infinity; a non-zero number divided by zero is an infinity
with the sign of the quotient (43_fp_arith.md; D28). They do so through `roundMagnitude`: the pattern
that it gives for `n / d` is a finite number no farther from it than any other, and the even one of
two as near; it is the infinity exactly from the halfway point past the largest finite number on. The
signs of zero results are presumed from IEEE 754 (log 6). -/
def Obligations.RoundingIsToNearestEven : Prop :=
  (∀ n d b : Nat, 0 < d → b = roundMagnitude n d →
    (b = infinityBits ↔ (2 ^ 25 - 1) * 2 ^ 252 * d ≤ n) ∧
    (b ≠ infinityBits → b < infinityBits ∧ ∀ k < infinityBits, k ≠ b →
      let far := ((magnitude (BitVec.ofNat 32 k) * d : Nat) - (n : Int)).natAbs
      let near := ((magnitude (BitVec.ofNat 32 b) * d : Nat) - (n : Int)).natAbs
      near ≤ far ∧ (near = far → b % 2 = 0))) ∧
  (∀ a b : Word, exponentField a ≠ 255 → exponentField b ≠ 255 →
    RoundsTo (ieeeAdd a b) (exactValue a + exactValue b) 1 ∧
    RoundsTo (ieeeSub a b) (exactValue a - exactValue b) 1 ∧
    RoundsTo (ieeeMul a b) (exactValue a * exactValue b) (2 ^ 149) ∧
    (magnitude b ≠ 0 →
      RoundsTo (ieeeDiv a b)
        ((if signBit b then -exactValue a else exactValue a) * 2 ^ 149) (magnitude b)) ∧
    (magnitude b = 0 → magnitude a ≠ 0 →
      ieeeDiv a b = if signBit a = signBit b then 0x7F800000#32 else 0xFF800000#32) ∧
    (exactValue a + exactValue b = 0 → ieeeAdd a b =
      if signBit a = true ∧ signBit b = true then 0x80000000#32 else 0x00000000#32) ∧
    (exactValue a - exactValue b = 0 → ieeeSub a b =
      if signBit a = true ∧ signBit b = false then 0x80000000#32 else 0x00000000#32) ∧
    (signBit (ieeeMul a b) = (signBit a != signBit b)) ∧
    (magnitude b ≠ 0 → signBit (ieeeDiv a b) = (signBit a != signBit b)))

/-! ## The hazard table, opcode by opcode -/

/-- The detection function, opcode by opcode: the registers a consumer reads, the file of a
producer's destination, the producers of rows 1, 3 and 4 with the asymmetries of the table (row 1
names register writers by inclusion; rows 3 and 4 name only what is no producer, so that a branch, a
`JUMP`, an `EOP` or an unknown opcode is one, but for `BNEZ`, and for `BLTZ` in row 4), the branches,
and the count: 2 exactly where row 1 applies, else 1 exactly where row 3 or 4 does, else 0. Among
well-formed records a producer that writes no register matches nothing
(46_hazard_unit.md sections 1 and 3; D12, D13, D14). -/
def Obligations.HazardTableByOpcode : Prop :=
  (∀ (b : Bool) (r : Record) (x : RegFile × Word), x ∈ srcs b r ↔
    (r.op b ∈ [some .ADD, some .SUB, some .XOR, some .SW] ∧
      (x = (.INT, r.src1) ∨ x = (.INT, r.src2))) ∨
    (r.op b ∈ [some .ADDI, some .SUBI, some .LW, some .LWS, some .BEQZ, some .BNEZ, some .BLTZ,
      some .BGTZ, some .BLEZ, some .BGEZ] ∧ x = (.INT, r.src1)) ∨
    (r.op b = some .SWS ∧ (x = (.FP, r.src1) ∨ x = (.INT, r.src2))) ∨
    (r.op b ∈ [some .ADDS, some .SUBS, some .MULTS, some .DIVS] ∧
      (x = (.FP, r.src1) ∨ x = (.FP, r.src2)))) ∧
  (∀ (b : Bool) (r : Record),
    (destFile b r = .FP ↔
      r.op b ∈ [some .LWS, some .ADDS, some .SUBS, some .MULTS, some .DIVS]) ∧
    (rowOneProducer b r = true ↔
      r.op b ∈ [some .ADD, some .ADDI, some .SUB, some .SUBI, some .XOR, some .LW, some .LWS,
        some .ADDS, some .SUBS, some .MULTS, some .DIVS]) ∧
    (rowThreeProducer b r = false ↔
      r.op b ∈ [some .SW, some .BNEZ, some .NOP, some .SWS]) ∧
    (rowFourProducer b r = false ↔
      r.op b ∈ [some .SW, some .BNEZ, some .NOP, some .BLTZ, some .SWS]) ∧
    (isBranch b r = true ↔
      r.op b ∈ [some .BEQZ, some .BNEZ, some .BLTZ, some .BGTZ, some .BLEZ, some .BGEZ,
        some .JUMP])) ∧
  (∀ (b : Bool) (p c : Record),
    (matchesSrc b p c = true ↔ (destFile b p, p.dest) ∈ srcs b c) ∧
    (p.wellFormed b = true → c.wellFormed b = true → rowOneProducer b p = false →
      matchesSrc b p c = false)) ∧
  (∀ (b : Bool) (c idex exmem memwb : Record),
    let row1 := rowOneProducer b idex = true ∧ matchesSrc b idex c = true
    let row3 := rowThreeProducer b exmem = true ∧ matchesSrc b exmem c = true
    let row4 := rowFourProducer b memwb = true ∧ matchesSrc b memwb c = true
    (raw b c idex exmem memwb = 2 ↔ row1) ∧
    (raw b c idex exmem memwb = 1 ↔ ¬ row1 ∧ (row3 ∨ row4)) ∧
    (raw b c idex exmem memwb = 0 ↔ ¬ row1 ∧ ¬ row3 ∧ ¬ row4))

end
end

