-- ==== Sys2Proof/Laws/Decode.lean ====
section
/-! SUPPORT. What decoding a record tells: its opcode, its immediate, the registers it names. -/

namespace Sys2Proof

/-- The immediate an instruction carries, `none` for the formats without one. -/
def Instr.imm? : Instr → Option Word
  | .lw _ _ imm | .sw _ _ imm | .addi _ _ imm | .subi _ _ imm | .beqz _ imm | .bnez _ imm
  | .bltz _ imm | .bgtz _ imm | .blez _ imm | .bgez _ imm | .jump imm | .lws _ _ imm
  | .sws _ _ imm => some imm
  | .add _ _ _ | .sub _ _ _ | .xor _ _ _ | .eop | .nop | .adds _ _ _ | .subs _ _ _
  | .mults _ _ _ | .divs _ _ _ => none

@[simp] theorem decodeReg_instr {f : RegField} {w : Word} {k : Reg → Decoded} {i : Instr} :
    decodeReg f w k = .instr i ↔ ∃ h : w.toNat < 32, k ⟨w.toNat, h⟩ = .instr i := by
  unfold decodeReg; split <;> simp_all

@[simp] theorem decodeReg_unknown {f : RegField} {w : Word} {k : Reg → Decoded} :
    decodeReg f w k = .unknown ↔ ∃ h : w.toNat < 32, k ⟨w.toNat, h⟩ = .unknown := by
  unfold decodeReg; split <;> simp_all

/-- The integer variant has no opcode that needs `HAS_FP` (30_encoding.md R89). -/
theorem needsFp_of_op_false {r : Record} {o : Opcode} (h : r.op false = some o) :
    o.needsFp = false := by
  have hm : o ∈ integerOpcodes := by
    simpa [Record.op, decodeOpcode] using List.mem_of_getElem? h
  revert hm; cases o <;> decide

/-- A record that decodes to an instruction has the instruction's opcode. -/
theorem op_of_decode {b : Bool} {r : Record} {i : Instr} (h : decodeRecord b r = .instr i) :
    r.op b = some i.opcode := by
  unfold decodeRecord at h
  split at h
  · cases h
  · next o ho =>
    rw [ho]
    cases o <;>
      simp only [decodeFields, decodeThree, decodeDestSrc, decodeTwoSrc, decodeOneSrc,
        decodeReg_instr, Decoded.instr.injEq] at h <;>
      obtain ⟨_, _, _, rfl⟩ := h <;> rfl

/-- The immediate an instruction carries is the record's. -/
theorem imm_of_decode {b : Bool} {r : Record} {i : Instr} (h : decodeRecord b r = .instr i) :
    ∀ x ∈ i.imm?, x = r.imm := by
  unfold decodeRecord at h
  split at h
  · cases h
  · next o ho =>
    cases o <;>
      simp only [decodeFields, decodeThree, decodeDestSrc, decodeTwoSrc, decodeOneSrc,
        decodeReg_instr, Decoded.instr.injEq] at h <;>
      obtain ⟨_, _, _, rfl⟩ := h <;> simp [Instr.imm?]

/-- Only the variant with `HAS_FP` decodes to a floating-point instruction. -/
theorem hasFp_of_decode {b : Bool} {r : Record} {i : Instr} (h : decodeRecord b r = .instr i)
    (hi : i.opcode.needsFp = true) : b = true := by
  cases b with
  | true => rfl
  | false => rw [needsFp_of_op_false (op_of_decode h)] at hi; cases hi

/-- A record decodes to the unknown opcode exactly when its opcode is none of the variant's. -/
theorem decode_unknown {b : Bool} {r : Record} : decodeRecord b r = .unknown ↔ r.op b = none := by
  unfold decodeRecord
  split
  · next h => simp [h]
  · next o h =>
    rw [h]
    cases o <;>
      simp [decodeFields, decodeThree, decodeDestSrc, decodeTwoSrc, decodeOneSrc]

@[simp] theorem nopRec_op (b : Bool) : nopRec.op b = some .NOP := by cases b <;> decide

@[simp] theorem decode_nopRec (b : Bool) : decodeRecord b nopRec = .instr .nop := by
  cases b <;> decide

end Sys2Proof
end

