-- ==== Sys2Proof/Laws/State.lean ====
section
/-! SUPPORT. One lemma for each field and each named update of the state, each true by `rfl`: simp reads a
field through the updates of Machine/Ops.lean without unfolding one. -/

namespace Sys2Proof.Machine

variable (s : State)

@[simp] theorem State.writeGp_cfg (i : Reg) (v : Word) : (s.writeGp i v).cfg = s.cfg := rfl
@[simp] theorem State.writeGp_gp (i : Reg) (v : Word) : (s.writeGp i v).gp = s.gp.set i.val v := rfl
@[simp] theorem State.writeGp_fp (i : Reg) (v : Word) : (s.writeGp i v).fp = s.fp := rfl
@[simp] theorem State.writeGp_pc (i : Reg) (v : Word) : (s.writeGp i v).pc = s.pc := rfl
@[simp] theorem State.writeGp_base (i : Reg) (v : Word) : (s.writeGp i v).base = s.base := rfl
@[simp] theorem State.writeGp_imem (i : Reg) (v : Word) : (s.writeGp i v).imem = s.imem := rfl
@[simp] theorem State.writeGp_loaded (i : Reg) (v : Word) : (s.writeGp i v).loaded = s.loaded := rfl
@[simp] theorem State.writeGp_dmem (i : Reg) (v : Word) : (s.writeGp i v).dmem = s.dmem := rfl
@[simp] theorem State.writeGp_ifid (i : Reg) (v : Word) : (s.writeGp i v).ifid = s.ifid := rfl
@[simp] theorem State.writeGp_idex (i : Reg) (v : Word) : (s.writeGp i v).idex = s.idex := rfl
@[simp] theorem State.writeGp_exmem (i : Reg) (v : Word) : (s.writeGp i v).exmem = s.exmem := rfl
@[simp] theorem State.writeGp_memwb (i : Reg) (v : Word) : (s.writeGp i v).memwb = s.memwb := rfl
@[simp] theorem State.writeGp_stallKind (i : Reg) (v : Word) :
    (s.writeGp i v).stallKind = s.stallKind := rfl
@[simp] theorem State.writeGp_stallRem (i : Reg) (v : Word) :
    (s.writeGp i v).stallRem = s.stallRem := rfl
@[simp] theorem State.writeGp_stallSize (i : Reg) (v : Word) :
    (s.writeGp i v).stallSize = s.stallSize := rfl
@[simp] theorem State.writeGp_branchPending (i : Reg) (v : Word) :
    (s.writeGp i v).branchPending = s.branchPending := rfl
@[simp] theorem State.writeGp_branchTarget (i : Reg) (v : Word) :
    (s.writeGp i v).branchTarget = s.branchTarget := rfl
@[simp] theorem State.writeGp_memStall (i : Reg) (v : Word) :
    (s.writeGp i v).memStall = s.memStall := rfl
@[simp] theorem State.writeGp_memCnt (i : Reg) (v : Word) : (s.writeGp i v).memCnt = s.memCnt := rfl
@[simp] theorem State.writeGp_exUnit (i : Reg) (v : Word) : (s.writeGp i v).exUnit = s.exUnit := rfl
@[simp] theorem State.writeGp_eopFetched (i : Reg) (v : Word) :
    (s.writeGp i v).eopFetched = s.eopFetched := rfl
@[simp] theorem State.writeGp_halted (i : Reg) (v : Word) : (s.writeGp i v).halted = s.halted := rfl
@[simp] theorem State.writeGp_cycle (i : Reg) (v : Word) : (s.writeGp i v).cycle = s.cycle := rfl
@[simp] theorem State.writeGp_fetchedCount (i : Reg) (v : Word) :
    (s.writeGp i v).fetchedCount = s.fetchedCount := rfl
@[simp] theorem State.writeGp_instCount (i : Reg) (v : Word) :
    (s.writeGp i v).instCount = s.instCount := rfl
@[simp] theorem State.writeGp_totalStalls (i : Reg) (v : Word) :
    (s.writeGp i v).totalStalls = s.totalStalls := rfl
@[simp] theorem State.writeGp_units (i : Reg) (v : Word) : (s.writeGp i v).units = s.units := rfl
@[simp] theorem State.writeGp_stage (i : Reg) (v : Word) : (s.writeGp i v).stage = s.stage := rfl

@[simp] theorem State.writeFp_cfg (i : Reg) (v : Word) : (s.writeFp i v).cfg = s.cfg := rfl
@[simp] theorem State.writeFp_gp (i : Reg) (v : Word) : (s.writeFp i v).gp = s.gp := rfl
@[simp] theorem State.writeFp_fp (i : Reg) (v : Word) : (s.writeFp i v).fp = s.fp.set i.val v := rfl
@[simp] theorem State.writeFp_pc (i : Reg) (v : Word) : (s.writeFp i v).pc = s.pc := rfl
@[simp] theorem State.writeFp_base (i : Reg) (v : Word) : (s.writeFp i v).base = s.base := rfl
@[simp] theorem State.writeFp_imem (i : Reg) (v : Word) : (s.writeFp i v).imem = s.imem := rfl
@[simp] theorem State.writeFp_loaded (i : Reg) (v : Word) : (s.writeFp i v).loaded = s.loaded := rfl
@[simp] theorem State.writeFp_dmem (i : Reg) (v : Word) : (s.writeFp i v).dmem = s.dmem := rfl
@[simp] theorem State.writeFp_ifid (i : Reg) (v : Word) : (s.writeFp i v).ifid = s.ifid := rfl
@[simp] theorem State.writeFp_idex (i : Reg) (v : Word) : (s.writeFp i v).idex = s.idex := rfl
@[simp] theorem State.writeFp_exmem (i : Reg) (v : Word) : (s.writeFp i v).exmem = s.exmem := rfl
@[simp] theorem State.writeFp_memwb (i : Reg) (v : Word) : (s.writeFp i v).memwb = s.memwb := rfl
@[simp] theorem State.writeFp_stallKind (i : Reg) (v : Word) :
    (s.writeFp i v).stallKind = s.stallKind := rfl
@[simp] theorem State.writeFp_stallRem (i : Reg) (v : Word) :
    (s.writeFp i v).stallRem = s.stallRem := rfl
@[simp] theorem State.writeFp_stallSize (i : Reg) (v : Word) :
    (s.writeFp i v).stallSize = s.stallSize := rfl
@[simp] theorem State.writeFp_branchPending (i : Reg) (v : Word) :
    (s.writeFp i v).branchPending = s.branchPending := rfl
@[simp] theorem State.writeFp_branchTarget (i : Reg) (v : Word) :
    (s.writeFp i v).branchTarget = s.branchTarget := rfl
@[simp] theorem State.writeFp_memStall (i : Reg) (v : Word) :
    (s.writeFp i v).memStall = s.memStall := rfl
@[simp] theorem State.writeFp_memCnt (i : Reg) (v : Word) : (s.writeFp i v).memCnt = s.memCnt := rfl
@[simp] theorem State.writeFp_exUnit (i : Reg) (v : Word) : (s.writeFp i v).exUnit = s.exUnit := rfl
@[simp] theorem State.writeFp_eopFetched (i : Reg) (v : Word) :
    (s.writeFp i v).eopFetched = s.eopFetched := rfl
@[simp] theorem State.writeFp_halted (i : Reg) (v : Word) : (s.writeFp i v).halted = s.halted := rfl
@[simp] theorem State.writeFp_cycle (i : Reg) (v : Word) : (s.writeFp i v).cycle = s.cycle := rfl
@[simp] theorem State.writeFp_fetchedCount (i : Reg) (v : Word) :
    (s.writeFp i v).fetchedCount = s.fetchedCount := rfl
@[simp] theorem State.writeFp_instCount (i : Reg) (v : Word) :
    (s.writeFp i v).instCount = s.instCount := rfl
@[simp] theorem State.writeFp_totalStalls (i : Reg) (v : Word) :
    (s.writeFp i v).totalStalls = s.totalStalls := rfl
@[simp] theorem State.writeFp_units (i : Reg) (v : Word) : (s.writeFp i v).units = s.units := rfl
@[simp] theorem State.writeFp_stage (i : Reg) (v : Word) : (s.writeFp i v).stage = s.stage := rfl

@[simp] theorem State.atStage_cfg (g : Stage) : (s.atStage g).cfg = s.cfg := rfl
@[simp] theorem State.atStage_gp (g : Stage) : (s.atStage g).gp = s.gp := rfl
@[simp] theorem State.atStage_fp (g : Stage) : (s.atStage g).fp = s.fp := rfl
@[simp] theorem State.atStage_pc (g : Stage) : (s.atStage g).pc = s.pc := rfl
@[simp] theorem State.atStage_base (g : Stage) : (s.atStage g).base = s.base := rfl
@[simp] theorem State.atStage_imem (g : Stage) : (s.atStage g).imem = s.imem := rfl
@[simp] theorem State.atStage_loaded (g : Stage) : (s.atStage g).loaded = s.loaded := rfl
@[simp] theorem State.atStage_dmem (g : Stage) : (s.atStage g).dmem = s.dmem := rfl
@[simp] theorem State.atStage_ifid (g : Stage) : (s.atStage g).ifid = s.ifid := rfl
@[simp] theorem State.atStage_idex (g : Stage) : (s.atStage g).idex = s.idex := rfl
@[simp] theorem State.atStage_exmem (g : Stage) : (s.atStage g).exmem = s.exmem := rfl
@[simp] theorem State.atStage_memwb (g : Stage) : (s.atStage g).memwb = s.memwb := rfl
@[simp] theorem State.atStage_stallKind (g : Stage) : (s.atStage g).stallKind = s.stallKind := rfl
@[simp] theorem State.atStage_stallRem (g : Stage) : (s.atStage g).stallRem = s.stallRem := rfl
@[simp] theorem State.atStage_stallSize (g : Stage) : (s.atStage g).stallSize = s.stallSize := rfl
@[simp] theorem State.atStage_branchPending (g : Stage) :
    (s.atStage g).branchPending = s.branchPending := rfl
@[simp] theorem State.atStage_branchTarget (g : Stage) :
    (s.atStage g).branchTarget = s.branchTarget := rfl
@[simp] theorem State.atStage_memStall (g : Stage) : (s.atStage g).memStall = s.memStall := rfl
@[simp] theorem State.atStage_memCnt (g : Stage) : (s.atStage g).memCnt = s.memCnt := rfl
@[simp] theorem State.atStage_exUnit (g : Stage) : (s.atStage g).exUnit = s.exUnit := rfl
@[simp] theorem State.atStage_eopFetched (g : Stage) :
    (s.atStage g).eopFetched = s.eopFetched := rfl
@[simp] theorem State.atStage_halted (g : Stage) : (s.atStage g).halted = s.halted := rfl
@[simp] theorem State.atStage_cycle (g : Stage) : (s.atStage g).cycle = s.cycle := rfl
@[simp] theorem State.atStage_fetchedCount (g : Stage) :
    (s.atStage g).fetchedCount = s.fetchedCount := rfl
@[simp] theorem State.atStage_instCount (g : Stage) : (s.atStage g).instCount = s.instCount := rfl
@[simp] theorem State.atStage_totalStalls (g : Stage) :
    (s.atStage g).totalStalls = s.totalStalls := rfl
@[simp] theorem State.atStage_units (g : Stage) : (s.atStage g).units = s.units := rfl
@[simp] theorem State.atStage_stage (g : Stage) : (s.atStage g).stage = g := rfl

@[simp] theorem State.setDmem_cfg (m : Memory) : (s.setDmem m).cfg = s.cfg := rfl
@[simp] theorem State.setDmem_gp (m : Memory) : (s.setDmem m).gp = s.gp := rfl
@[simp] theorem State.setDmem_fp (m : Memory) : (s.setDmem m).fp = s.fp := rfl
@[simp] theorem State.setDmem_pc (m : Memory) : (s.setDmem m).pc = s.pc := rfl
@[simp] theorem State.setDmem_base (m : Memory) : (s.setDmem m).base = s.base := rfl
@[simp] theorem State.setDmem_imem (m : Memory) : (s.setDmem m).imem = s.imem := rfl
@[simp] theorem State.setDmem_loaded (m : Memory) : (s.setDmem m).loaded = s.loaded := rfl
@[simp] theorem State.setDmem_dmem (m : Memory) : (s.setDmem m).dmem = m := rfl
@[simp] theorem State.setDmem_ifid (m : Memory) : (s.setDmem m).ifid = s.ifid := rfl
@[simp] theorem State.setDmem_idex (m : Memory) : (s.setDmem m).idex = s.idex := rfl
@[simp] theorem State.setDmem_exmem (m : Memory) : (s.setDmem m).exmem = s.exmem := rfl
@[simp] theorem State.setDmem_memwb (m : Memory) : (s.setDmem m).memwb = s.memwb := rfl
@[simp] theorem State.setDmem_stallKind (m : Memory) : (s.setDmem m).stallKind = s.stallKind := rfl
@[simp] theorem State.setDmem_stallRem (m : Memory) : (s.setDmem m).stallRem = s.stallRem := rfl
@[simp] theorem State.setDmem_stallSize (m : Memory) : (s.setDmem m).stallSize = s.stallSize := rfl
@[simp] theorem State.setDmem_branchPending (m : Memory) :
    (s.setDmem m).branchPending = s.branchPending := rfl
@[simp] theorem State.setDmem_branchTarget (m : Memory) :
    (s.setDmem m).branchTarget = s.branchTarget := rfl
@[simp] theorem State.setDmem_memStall (m : Memory) : (s.setDmem m).memStall = s.memStall := rfl
@[simp] theorem State.setDmem_memCnt (m : Memory) : (s.setDmem m).memCnt = s.memCnt := rfl
@[simp] theorem State.setDmem_exUnit (m : Memory) : (s.setDmem m).exUnit = s.exUnit := rfl
@[simp] theorem State.setDmem_eopFetched (m : Memory) :
    (s.setDmem m).eopFetched = s.eopFetched := rfl
@[simp] theorem State.setDmem_halted (m : Memory) : (s.setDmem m).halted = s.halted := rfl
@[simp] theorem State.setDmem_cycle (m : Memory) : (s.setDmem m).cycle = s.cycle := rfl
@[simp] theorem State.setDmem_fetchedCount (m : Memory) :
    (s.setDmem m).fetchedCount = s.fetchedCount := rfl
@[simp] theorem State.setDmem_instCount (m : Memory) : (s.setDmem m).instCount = s.instCount := rfl
@[simp] theorem State.setDmem_totalStalls (m : Memory) :
    (s.setDmem m).totalStalls = s.totalStalls := rfl
@[simp] theorem State.setDmem_units (m : Memory) : (s.setDmem m).units = s.units := rfl
@[simp] theorem State.setDmem_stage (m : Memory) : (s.setDmem m).stage = s.stage := rfl

@[simp] theorem State.setIfid_cfg (l : Latch) : (s.setIfid l).cfg = s.cfg := rfl
@[simp] theorem State.setIfid_gp (l : Latch) : (s.setIfid l).gp = s.gp := rfl
@[simp] theorem State.setIfid_fp (l : Latch) : (s.setIfid l).fp = s.fp := rfl
@[simp] theorem State.setIfid_pc (l : Latch) : (s.setIfid l).pc = s.pc := rfl
@[simp] theorem State.setIfid_base (l : Latch) : (s.setIfid l).base = s.base := rfl
@[simp] theorem State.setIfid_imem (l : Latch) : (s.setIfid l).imem = s.imem := rfl
@[simp] theorem State.setIfid_loaded (l : Latch) : (s.setIfid l).loaded = s.loaded := rfl
@[simp] theorem State.setIfid_dmem (l : Latch) : (s.setIfid l).dmem = s.dmem := rfl
@[simp] theorem State.setIfid_ifid (l : Latch) : (s.setIfid l).ifid = l := rfl
@[simp] theorem State.setIfid_idex (l : Latch) : (s.setIfid l).idex = s.idex := rfl
@[simp] theorem State.setIfid_exmem (l : Latch) : (s.setIfid l).exmem = s.exmem := rfl
@[simp] theorem State.setIfid_memwb (l : Latch) : (s.setIfid l).memwb = s.memwb := rfl
@[simp] theorem State.setIfid_stallKind (l : Latch) : (s.setIfid l).stallKind = s.stallKind := rfl
@[simp] theorem State.setIfid_stallRem (l : Latch) : (s.setIfid l).stallRem = s.stallRem := rfl
@[simp] theorem State.setIfid_stallSize (l : Latch) : (s.setIfid l).stallSize = s.stallSize := rfl
@[simp] theorem State.setIfid_branchPending (l : Latch) :
    (s.setIfid l).branchPending = s.branchPending := rfl
@[simp] theorem State.setIfid_branchTarget (l : Latch) :
    (s.setIfid l).branchTarget = s.branchTarget := rfl
@[simp] theorem State.setIfid_memStall (l : Latch) : (s.setIfid l).memStall = s.memStall := rfl
@[simp] theorem State.setIfid_memCnt (l : Latch) : (s.setIfid l).memCnt = s.memCnt := rfl
@[simp] theorem State.setIfid_exUnit (l : Latch) : (s.setIfid l).exUnit = s.exUnit := rfl
@[simp] theorem State.setIfid_eopFetched (l : Latch) :
    (s.setIfid l).eopFetched = s.eopFetched := rfl
@[simp] theorem State.setIfid_halted (l : Latch) : (s.setIfid l).halted = s.halted := rfl
@[simp] theorem State.setIfid_cycle (l : Latch) : (s.setIfid l).cycle = s.cycle := rfl
@[simp] theorem State.setIfid_fetchedCount (l : Latch) :
    (s.setIfid l).fetchedCount = s.fetchedCount := rfl
@[simp] theorem State.setIfid_instCount (l : Latch) : (s.setIfid l).instCount = s.instCount := rfl
@[simp] theorem State.setIfid_totalStalls (l : Latch) :
    (s.setIfid l).totalStalls = s.totalStalls := rfl
@[simp] theorem State.setIfid_units (l : Latch) : (s.setIfid l).units = s.units := rfl
@[simp] theorem State.setIfid_stage (l : Latch) : (s.setIfid l).stage = s.stage := rfl

@[simp] theorem State.setIdex_cfg (l : Latch) : (s.setIdex l).cfg = s.cfg := rfl
@[simp] theorem State.setIdex_gp (l : Latch) : (s.setIdex l).gp = s.gp := rfl
@[simp] theorem State.setIdex_fp (l : Latch) : (s.setIdex l).fp = s.fp := rfl
@[simp] theorem State.setIdex_pc (l : Latch) : (s.setIdex l).pc = s.pc := rfl
@[simp] theorem State.setIdex_base (l : Latch) : (s.setIdex l).base = s.base := rfl
@[simp] theorem State.setIdex_imem (l : Latch) : (s.setIdex l).imem = s.imem := rfl
@[simp] theorem State.setIdex_loaded (l : Latch) : (s.setIdex l).loaded = s.loaded := rfl
@[simp] theorem State.setIdex_dmem (l : Latch) : (s.setIdex l).dmem = s.dmem := rfl
@[simp] theorem State.setIdex_ifid (l : Latch) : (s.setIdex l).ifid = s.ifid := rfl
@[simp] theorem State.setIdex_idex (l : Latch) : (s.setIdex l).idex = l := rfl
@[simp] theorem State.setIdex_exmem (l : Latch) : (s.setIdex l).exmem = s.exmem := rfl
@[simp] theorem State.setIdex_memwb (l : Latch) : (s.setIdex l).memwb = s.memwb := rfl
@[simp] theorem State.setIdex_stallKind (l : Latch) : (s.setIdex l).stallKind = s.stallKind := rfl
@[simp] theorem State.setIdex_stallRem (l : Latch) : (s.setIdex l).stallRem = s.stallRem := rfl
@[simp] theorem State.setIdex_stallSize (l : Latch) : (s.setIdex l).stallSize = s.stallSize := rfl
@[simp] theorem State.setIdex_branchPending (l : Latch) :
    (s.setIdex l).branchPending = s.branchPending := rfl
@[simp] theorem State.setIdex_branchTarget (l : Latch) :
    (s.setIdex l).branchTarget = s.branchTarget := rfl
@[simp] theorem State.setIdex_memStall (l : Latch) : (s.setIdex l).memStall = s.memStall := rfl
@[simp] theorem State.setIdex_memCnt (l : Latch) : (s.setIdex l).memCnt = s.memCnt := rfl
@[simp] theorem State.setIdex_exUnit (l : Latch) : (s.setIdex l).exUnit = s.exUnit := rfl
@[simp] theorem State.setIdex_eopFetched (l : Latch) :
    (s.setIdex l).eopFetched = s.eopFetched := rfl
@[simp] theorem State.setIdex_halted (l : Latch) : (s.setIdex l).halted = s.halted := rfl
@[simp] theorem State.setIdex_cycle (l : Latch) : (s.setIdex l).cycle = s.cycle := rfl
@[simp] theorem State.setIdex_fetchedCount (l : Latch) :
    (s.setIdex l).fetchedCount = s.fetchedCount := rfl
@[simp] theorem State.setIdex_instCount (l : Latch) : (s.setIdex l).instCount = s.instCount := rfl
@[simp] theorem State.setIdex_totalStalls (l : Latch) :
    (s.setIdex l).totalStalls = s.totalStalls := rfl
@[simp] theorem State.setIdex_units (l : Latch) : (s.setIdex l).units = s.units := rfl
@[simp] theorem State.setIdex_stage (l : Latch) : (s.setIdex l).stage = s.stage := rfl

@[simp] theorem State.setExmem_cfg (l : Latch) : (s.setExmem l).cfg = s.cfg := rfl
@[simp] theorem State.setExmem_gp (l : Latch) : (s.setExmem l).gp = s.gp := rfl
@[simp] theorem State.setExmem_fp (l : Latch) : (s.setExmem l).fp = s.fp := rfl
@[simp] theorem State.setExmem_pc (l : Latch) : (s.setExmem l).pc = s.pc := rfl
@[simp] theorem State.setExmem_base (l : Latch) : (s.setExmem l).base = s.base := rfl
@[simp] theorem State.setExmem_imem (l : Latch) : (s.setExmem l).imem = s.imem := rfl
@[simp] theorem State.setExmem_loaded (l : Latch) : (s.setExmem l).loaded = s.loaded := rfl
@[simp] theorem State.setExmem_dmem (l : Latch) : (s.setExmem l).dmem = s.dmem := rfl
@[simp] theorem State.setExmem_ifid (l : Latch) : (s.setExmem l).ifid = s.ifid := rfl
@[simp] theorem State.setExmem_idex (l : Latch) : (s.setExmem l).idex = s.idex := rfl
@[simp] theorem State.setExmem_exmem (l : Latch) : (s.setExmem l).exmem = l := rfl
@[simp] theorem State.setExmem_memwb (l : Latch) : (s.setExmem l).memwb = s.memwb := rfl
@[simp] theorem State.setExmem_stallKind (l : Latch) : (s.setExmem l).stallKind = s.stallKind := rfl
@[simp] theorem State.setExmem_stallRem (l : Latch) : (s.setExmem l).stallRem = s.stallRem := rfl
@[simp] theorem State.setExmem_stallSize (l : Latch) : (s.setExmem l).stallSize = s.stallSize := rfl
@[simp] theorem State.setExmem_branchPending (l : Latch) :
    (s.setExmem l).branchPending = s.branchPending := rfl
@[simp] theorem State.setExmem_branchTarget (l : Latch) :
    (s.setExmem l).branchTarget = s.branchTarget := rfl
@[simp] theorem State.setExmem_memStall (l : Latch) : (s.setExmem l).memStall = s.memStall := rfl
@[simp] theorem State.setExmem_memCnt (l : Latch) : (s.setExmem l).memCnt = s.memCnt := rfl
@[simp] theorem State.setExmem_exUnit (l : Latch) : (s.setExmem l).exUnit = s.exUnit := rfl
@[simp] theorem State.setExmem_eopFetched (l : Latch) :
    (s.setExmem l).eopFetched = s.eopFetched := rfl
@[simp] theorem State.setExmem_halted (l : Latch) : (s.setExmem l).halted = s.halted := rfl
@[simp] theorem State.setExmem_cycle (l : Latch) : (s.setExmem l).cycle = s.cycle := rfl
@[simp] theorem State.setExmem_fetchedCount (l : Latch) :
    (s.setExmem l).fetchedCount = s.fetchedCount := rfl
@[simp] theorem State.setExmem_instCount (l : Latch) : (s.setExmem l).instCount = s.instCount := rfl
@[simp] theorem State.setExmem_totalStalls (l : Latch) :
    (s.setExmem l).totalStalls = s.totalStalls := rfl
@[simp] theorem State.setExmem_units (l : Latch) : (s.setExmem l).units = s.units := rfl
@[simp] theorem State.setExmem_stage (l : Latch) : (s.setExmem l).stage = s.stage := rfl

@[simp] theorem State.setMemwb_cfg (l : Latch) : (s.setMemwb l).cfg = s.cfg := rfl
@[simp] theorem State.setMemwb_gp (l : Latch) : (s.setMemwb l).gp = s.gp := rfl
@[simp] theorem State.setMemwb_fp (l : Latch) : (s.setMemwb l).fp = s.fp := rfl
@[simp] theorem State.setMemwb_pc (l : Latch) : (s.setMemwb l).pc = s.pc := rfl
@[simp] theorem State.setMemwb_base (l : Latch) : (s.setMemwb l).base = s.base := rfl
@[simp] theorem State.setMemwb_imem (l : Latch) : (s.setMemwb l).imem = s.imem := rfl
@[simp] theorem State.setMemwb_loaded (l : Latch) : (s.setMemwb l).loaded = s.loaded := rfl
@[simp] theorem State.setMemwb_dmem (l : Latch) : (s.setMemwb l).dmem = s.dmem := rfl
@[simp] theorem State.setMemwb_ifid (l : Latch) : (s.setMemwb l).ifid = s.ifid := rfl
@[simp] theorem State.setMemwb_idex (l : Latch) : (s.setMemwb l).idex = s.idex := rfl
@[simp] theorem State.setMemwb_exmem (l : Latch) : (s.setMemwb l).exmem = s.exmem := rfl
@[simp] theorem State.setMemwb_memwb (l : Latch) : (s.setMemwb l).memwb = l := rfl
@[simp] theorem State.setMemwb_stallKind (l : Latch) : (s.setMemwb l).stallKind = s.stallKind := rfl
@[simp] theorem State.setMemwb_stallRem (l : Latch) : (s.setMemwb l).stallRem = s.stallRem := rfl
@[simp] theorem State.setMemwb_stallSize (l : Latch) : (s.setMemwb l).stallSize = s.stallSize := rfl
@[simp] theorem State.setMemwb_branchPending (l : Latch) :
    (s.setMemwb l).branchPending = s.branchPending := rfl
@[simp] theorem State.setMemwb_branchTarget (l : Latch) :
    (s.setMemwb l).branchTarget = s.branchTarget := rfl
@[simp] theorem State.setMemwb_memStall (l : Latch) : (s.setMemwb l).memStall = s.memStall := rfl
@[simp] theorem State.setMemwb_memCnt (l : Latch) : (s.setMemwb l).memCnt = s.memCnt := rfl
@[simp] theorem State.setMemwb_exUnit (l : Latch) : (s.setMemwb l).exUnit = s.exUnit := rfl
@[simp] theorem State.setMemwb_eopFetched (l : Latch) :
    (s.setMemwb l).eopFetched = s.eopFetched := rfl
@[simp] theorem State.setMemwb_halted (l : Latch) : (s.setMemwb l).halted = s.halted := rfl
@[simp] theorem State.setMemwb_cycle (l : Latch) : (s.setMemwb l).cycle = s.cycle := rfl
@[simp] theorem State.setMemwb_fetchedCount (l : Latch) :
    (s.setMemwb l).fetchedCount = s.fetchedCount := rfl
@[simp] theorem State.setMemwb_instCount (l : Latch) : (s.setMemwb l).instCount = s.instCount := rfl
@[simp] theorem State.setMemwb_totalStalls (l : Latch) :
    (s.setMemwb l).totalStalls = s.totalStalls := rfl
@[simp] theorem State.setMemwb_units (l : Latch) : (s.setMemwb l).units = s.units := rfl
@[simp] theorem State.setMemwb_stage (l : Latch) : (s.setMemwb l).stage = s.stage := rfl

@[simp] theorem State.setPc_cfg (a : Word) : (s.setPc a).cfg = s.cfg := rfl
@[simp] theorem State.setPc_gp (a : Word) : (s.setPc a).gp = s.gp := rfl
@[simp] theorem State.setPc_fp (a : Word) : (s.setPc a).fp = s.fp := rfl
@[simp] theorem State.setPc_pc (a : Word) : (s.setPc a).pc = a := rfl
@[simp] theorem State.setPc_base (a : Word) : (s.setPc a).base = s.base := rfl
@[simp] theorem State.setPc_imem (a : Word) : (s.setPc a).imem = s.imem := rfl
@[simp] theorem State.setPc_loaded (a : Word) : (s.setPc a).loaded = s.loaded := rfl
@[simp] theorem State.setPc_dmem (a : Word) : (s.setPc a).dmem = s.dmem := rfl
@[simp] theorem State.setPc_ifid (a : Word) : (s.setPc a).ifid = s.ifid := rfl
@[simp] theorem State.setPc_idex (a : Word) : (s.setPc a).idex = s.idex := rfl
@[simp] theorem State.setPc_exmem (a : Word) : (s.setPc a).exmem = s.exmem := rfl
@[simp] theorem State.setPc_memwb (a : Word) : (s.setPc a).memwb = s.memwb := rfl
@[simp] theorem State.setPc_stallKind (a : Word) : (s.setPc a).stallKind = s.stallKind := rfl
@[simp] theorem State.setPc_stallRem (a : Word) : (s.setPc a).stallRem = s.stallRem := rfl
@[simp] theorem State.setPc_stallSize (a : Word) : (s.setPc a).stallSize = s.stallSize := rfl
@[simp] theorem State.setPc_branchPending (a : Word) :
    (s.setPc a).branchPending = s.branchPending := rfl
@[simp] theorem State.setPc_branchTarget (a : Word) :
    (s.setPc a).branchTarget = s.branchTarget := rfl
@[simp] theorem State.setPc_memStall (a : Word) : (s.setPc a).memStall = s.memStall := rfl
@[simp] theorem State.setPc_memCnt (a : Word) : (s.setPc a).memCnt = s.memCnt := rfl
@[simp] theorem State.setPc_exUnit (a : Word) : (s.setPc a).exUnit = s.exUnit := rfl
@[simp] theorem State.setPc_eopFetched (a : Word) : (s.setPc a).eopFetched = s.eopFetched := rfl
@[simp] theorem State.setPc_halted (a : Word) : (s.setPc a).halted = s.halted := rfl
@[simp] theorem State.setPc_cycle (a : Word) : (s.setPc a).cycle = s.cycle := rfl
@[simp] theorem State.setPc_fetchedCount (a : Word) :
    (s.setPc a).fetchedCount = s.fetchedCount := rfl
@[simp] theorem State.setPc_instCount (a : Word) : (s.setPc a).instCount = s.instCount := rfl
@[simp] theorem State.setPc_totalStalls (a : Word) : (s.setPc a).totalStalls = s.totalStalls := rfl
@[simp] theorem State.setPc_units (a : Word) : (s.setPc a).units = s.units := rfl
@[simp] theorem State.setPc_stage (a : Word) : (s.setPc a).stage = s.stage := rfl

@[simp] theorem State.countFetch_cfg : (s.countFetch).cfg = s.cfg := rfl
@[simp] theorem State.countFetch_gp : (s.countFetch).gp = s.gp := rfl
@[simp] theorem State.countFetch_fp : (s.countFetch).fp = s.fp := rfl
@[simp] theorem State.countFetch_pc : (s.countFetch).pc = s.pc := rfl
@[simp] theorem State.countFetch_base : (s.countFetch).base = s.base := rfl
@[simp] theorem State.countFetch_imem : (s.countFetch).imem = s.imem := rfl
@[simp] theorem State.countFetch_loaded : (s.countFetch).loaded = s.loaded := rfl
@[simp] theorem State.countFetch_dmem : (s.countFetch).dmem = s.dmem := rfl
@[simp] theorem State.countFetch_ifid : (s.countFetch).ifid = s.ifid := rfl
@[simp] theorem State.countFetch_idex : (s.countFetch).idex = s.idex := rfl
@[simp] theorem State.countFetch_exmem : (s.countFetch).exmem = s.exmem := rfl
@[simp] theorem State.countFetch_memwb : (s.countFetch).memwb = s.memwb := rfl
@[simp] theorem State.countFetch_stallKind : (s.countFetch).stallKind = s.stallKind := rfl
@[simp] theorem State.countFetch_stallRem : (s.countFetch).stallRem = s.stallRem := rfl
@[simp] theorem State.countFetch_stallSize : (s.countFetch).stallSize = s.stallSize := rfl
@[simp] theorem State.countFetch_branchPending :
    (s.countFetch).branchPending = s.branchPending := rfl
@[simp] theorem State.countFetch_branchTarget : (s.countFetch).branchTarget = s.branchTarget := rfl
@[simp] theorem State.countFetch_memStall : (s.countFetch).memStall = s.memStall := rfl
@[simp] theorem State.countFetch_memCnt : (s.countFetch).memCnt = s.memCnt := rfl
@[simp] theorem State.countFetch_exUnit : (s.countFetch).exUnit = s.exUnit := rfl
@[simp] theorem State.countFetch_eopFetched : (s.countFetch).eopFetched = s.eopFetched := rfl
@[simp] theorem State.countFetch_halted : (s.countFetch).halted = s.halted := rfl
@[simp] theorem State.countFetch_cycle : (s.countFetch).cycle = s.cycle := rfl
@[simp] theorem State.countFetch_fetchedCount :
    (s.countFetch).fetchedCount = s.fetchedCount + 1#32 := rfl
@[simp] theorem State.countFetch_instCount : (s.countFetch).instCount = s.instCount + 1#32 := rfl
@[simp] theorem State.countFetch_totalStalls : (s.countFetch).totalStalls = s.totalStalls := rfl
@[simp] theorem State.countFetch_units : (s.countFetch).units = s.units := rfl
@[simp] theorem State.countFetch_stage : (s.countFetch).stage = s.stage := rfl

@[simp] theorem State.countEop_cfg : (s.countEop).cfg = s.cfg := rfl
@[simp] theorem State.countEop_gp : (s.countEop).gp = s.gp := rfl
@[simp] theorem State.countEop_fp : (s.countEop).fp = s.fp := rfl
@[simp] theorem State.countEop_pc : (s.countEop).pc = s.pc := rfl
@[simp] theorem State.countEop_base : (s.countEop).base = s.base := rfl
@[simp] theorem State.countEop_imem : (s.countEop).imem = s.imem := rfl
@[simp] theorem State.countEop_loaded : (s.countEop).loaded = s.loaded := rfl
@[simp] theorem State.countEop_dmem : (s.countEop).dmem = s.dmem := rfl
@[simp] theorem State.countEop_ifid : (s.countEop).ifid = s.ifid := rfl
@[simp] theorem State.countEop_idex : (s.countEop).idex = s.idex := rfl
@[simp] theorem State.countEop_exmem : (s.countEop).exmem = s.exmem := rfl
@[simp] theorem State.countEop_memwb : (s.countEop).memwb = s.memwb := rfl
@[simp] theorem State.countEop_stallKind : (s.countEop).stallKind = s.stallKind := rfl
@[simp] theorem State.countEop_stallRem : (s.countEop).stallRem = s.stallRem := rfl
@[simp] theorem State.countEop_stallSize : (s.countEop).stallSize = s.stallSize := rfl
@[simp] theorem State.countEop_branchPending : (s.countEop).branchPending = s.branchPending := rfl
@[simp] theorem State.countEop_branchTarget : (s.countEop).branchTarget = s.branchTarget := rfl
@[simp] theorem State.countEop_memStall : (s.countEop).memStall = s.memStall := rfl
@[simp] theorem State.countEop_memCnt : (s.countEop).memCnt = s.memCnt := rfl
@[simp] theorem State.countEop_exUnit : (s.countEop).exUnit = s.exUnit := rfl
@[simp] theorem State.countEop_eopFetched : (s.countEop).eopFetched = true := rfl
@[simp] theorem State.countEop_halted : (s.countEop).halted = s.halted := rfl
@[simp] theorem State.countEop_cycle : (s.countEop).cycle = s.cycle := rfl
@[simp] theorem State.countEop_fetchedCount :
    (s.countEop).fetchedCount = s.fetchedCount + 1#32 := rfl
@[simp] theorem State.countEop_instCount : (s.countEop).instCount = s.instCount := rfl
@[simp] theorem State.countEop_totalStalls : (s.countEop).totalStalls = s.totalStalls := rfl
@[simp] theorem State.countEop_units : (s.countEop).units = s.units := rfl
@[simp] theorem State.countEop_stage : (s.countEop).stage = s.stage := rfl

@[simp] theorem State.haltUnlessPending_cfg : (s.haltUnlessPending).cfg = s.cfg := rfl
@[simp] theorem State.haltUnlessPending_gp : (s.haltUnlessPending).gp = s.gp := rfl
@[simp] theorem State.haltUnlessPending_fp : (s.haltUnlessPending).fp = s.fp := rfl
@[simp] theorem State.haltUnlessPending_pc : (s.haltUnlessPending).pc = s.pc := rfl
@[simp] theorem State.haltUnlessPending_base : (s.haltUnlessPending).base = s.base := rfl
@[simp] theorem State.haltUnlessPending_imem : (s.haltUnlessPending).imem = s.imem := rfl
@[simp] theorem State.haltUnlessPending_loaded : (s.haltUnlessPending).loaded = s.loaded := rfl
@[simp] theorem State.haltUnlessPending_dmem : (s.haltUnlessPending).dmem = s.dmem := rfl
@[simp] theorem State.haltUnlessPending_ifid : (s.haltUnlessPending).ifid = s.ifid := rfl
@[simp] theorem State.haltUnlessPending_idex : (s.haltUnlessPending).idex = s.idex := rfl
@[simp] theorem State.haltUnlessPending_exmem : (s.haltUnlessPending).exmem = s.exmem := rfl
@[simp] theorem State.haltUnlessPending_memwb : (s.haltUnlessPending).memwb = s.memwb := rfl
@[simp] theorem State.haltUnlessPending_stallKind :
    (s.haltUnlessPending).stallKind = s.stallKind := rfl
@[simp] theorem State.haltUnlessPending_stallRem :
    (s.haltUnlessPending).stallRem = s.stallRem := rfl
@[simp] theorem State.haltUnlessPending_stallSize :
    (s.haltUnlessPending).stallSize = s.stallSize := rfl
@[simp] theorem State.haltUnlessPending_branchPending :
    (s.haltUnlessPending).branchPending = s.branchPending := rfl
@[simp] theorem State.haltUnlessPending_branchTarget :
    (s.haltUnlessPending).branchTarget = s.branchTarget := rfl
@[simp] theorem State.haltUnlessPending_memStall :
    (s.haltUnlessPending).memStall = s.memStall := rfl
@[simp] theorem State.haltUnlessPending_memCnt : (s.haltUnlessPending).memCnt = s.memCnt := rfl
@[simp] theorem State.haltUnlessPending_exUnit : (s.haltUnlessPending).exUnit = s.exUnit := rfl
@[simp] theorem State.haltUnlessPending_eopFetched :
    (s.haltUnlessPending).eopFetched = s.eopFetched := rfl
@[simp] theorem State.haltUnlessPending_halted :
    (s.haltUnlessPending).halted = (s.halted || !s.branchPending) := rfl
@[simp] theorem State.haltUnlessPending_cycle : (s.haltUnlessPending).cycle = s.cycle := rfl
@[simp] theorem State.haltUnlessPending_fetchedCount :
    (s.haltUnlessPending).fetchedCount = s.fetchedCount := rfl
@[simp] theorem State.haltUnlessPending_instCount :
    (s.haltUnlessPending).instCount = s.instCount := rfl
@[simp] theorem State.haltUnlessPending_totalStalls :
    (s.haltUnlessPending).totalStalls = s.totalStalls := rfl
@[simp] theorem State.haltUnlessPending_units : (s.haltUnlessPending).units = s.units := rfl
@[simp] theorem State.haltUnlessPending_stage : (s.haltUnlessPending).stage = s.stage := rfl

@[simp] theorem State.branchTo_cfg (a : Word) : (s.branchTo a).cfg = s.cfg := rfl
@[simp] theorem State.branchTo_gp (a : Word) : (s.branchTo a).gp = s.gp := rfl
@[simp] theorem State.branchTo_fp (a : Word) : (s.branchTo a).fp = s.fp := rfl
@[simp] theorem State.branchTo_pc (a : Word) : (s.branchTo a).pc = s.pc := rfl
@[simp] theorem State.branchTo_base (a : Word) : (s.branchTo a).base = s.base := rfl
@[simp] theorem State.branchTo_imem (a : Word) : (s.branchTo a).imem = s.imem := rfl
@[simp] theorem State.branchTo_loaded (a : Word) : (s.branchTo a).loaded = s.loaded := rfl
@[simp] theorem State.branchTo_dmem (a : Word) : (s.branchTo a).dmem = s.dmem := rfl
@[simp] theorem State.branchTo_ifid (a : Word) : (s.branchTo a).ifid = s.ifid := rfl
@[simp] theorem State.branchTo_idex (a : Word) : (s.branchTo a).idex = s.idex := rfl
@[simp] theorem State.branchTo_exmem (a : Word) : (s.branchTo a).exmem = s.exmem := rfl
@[simp] theorem State.branchTo_memwb (a : Word) : (s.branchTo a).memwb = s.memwb := rfl
@[simp] theorem State.branchTo_stallKind (a : Word) : (s.branchTo a).stallKind = s.stallKind := rfl
@[simp] theorem State.branchTo_stallRem (a : Word) : (s.branchTo a).stallRem = s.stallRem := rfl
@[simp] theorem State.branchTo_stallSize (a : Word) : (s.branchTo a).stallSize = s.stallSize := rfl
@[simp] theorem State.branchTo_branchPending (a : Word) : (s.branchTo a).branchPending = true := rfl
@[simp] theorem State.branchTo_branchTarget (a : Word) : (s.branchTo a).branchTarget = a := rfl
@[simp] theorem State.branchTo_memStall (a : Word) : (s.branchTo a).memStall = s.memStall := rfl
@[simp] theorem State.branchTo_memCnt (a : Word) : (s.branchTo a).memCnt = s.memCnt := rfl
@[simp] theorem State.branchTo_exUnit (a : Word) : (s.branchTo a).exUnit = s.exUnit := rfl
@[simp] theorem State.branchTo_eopFetched (a : Word) :
    (s.branchTo a).eopFetched = s.eopFetched := rfl
@[simp] theorem State.branchTo_halted (a : Word) : (s.branchTo a).halted = s.halted := rfl
@[simp] theorem State.branchTo_cycle (a : Word) : (s.branchTo a).cycle = s.cycle := rfl
@[simp] theorem State.branchTo_fetchedCount (a : Word) :
    (s.branchTo a).fetchedCount = s.fetchedCount := rfl
@[simp] theorem State.branchTo_instCount (a : Word) : (s.branchTo a).instCount = s.instCount := rfl
@[simp] theorem State.branchTo_totalStalls (a : Word) :
    (s.branchTo a).totalStalls = s.totalStalls := rfl
@[simp] theorem State.branchTo_units (a : Word) : (s.branchTo a).units = s.units := rfl
@[simp] theorem State.branchTo_stage (a : Word) : (s.branchTo a).stage = s.stage := rfl

@[simp] theorem State.clearBranch_cfg : (s.clearBranch).cfg = s.cfg := rfl
@[simp] theorem State.clearBranch_gp : (s.clearBranch).gp = s.gp := rfl
@[simp] theorem State.clearBranch_fp : (s.clearBranch).fp = s.fp := rfl
@[simp] theorem State.clearBranch_pc : (s.clearBranch).pc = s.pc := rfl
@[simp] theorem State.clearBranch_base : (s.clearBranch).base = s.base := rfl
@[simp] theorem State.clearBranch_imem : (s.clearBranch).imem = s.imem := rfl
@[simp] theorem State.clearBranch_loaded : (s.clearBranch).loaded = s.loaded := rfl
@[simp] theorem State.clearBranch_dmem : (s.clearBranch).dmem = s.dmem := rfl
@[simp] theorem State.clearBranch_ifid : (s.clearBranch).ifid = s.ifid := rfl
@[simp] theorem State.clearBranch_idex : (s.clearBranch).idex = s.idex := rfl
@[simp] theorem State.clearBranch_exmem : (s.clearBranch).exmem = s.exmem := rfl
@[simp] theorem State.clearBranch_memwb : (s.clearBranch).memwb = s.memwb := rfl
@[simp] theorem State.clearBranch_stallKind : (s.clearBranch).stallKind = s.stallKind := rfl
@[simp] theorem State.clearBranch_stallRem : (s.clearBranch).stallRem = s.stallRem := rfl
@[simp] theorem State.clearBranch_stallSize : (s.clearBranch).stallSize = s.stallSize := rfl
@[simp] theorem State.clearBranch_branchPending : (s.clearBranch).branchPending = false := rfl
@[simp] theorem State.clearBranch_branchTarget :
    (s.clearBranch).branchTarget = s.branchTarget := rfl
@[simp] theorem State.clearBranch_memStall : (s.clearBranch).memStall = s.memStall := rfl
@[simp] theorem State.clearBranch_memCnt : (s.clearBranch).memCnt = s.memCnt := rfl
@[simp] theorem State.clearBranch_exUnit : (s.clearBranch).exUnit = s.exUnit := rfl
@[simp] theorem State.clearBranch_eopFetched : (s.clearBranch).eopFetched = s.eopFetched := rfl
@[simp] theorem State.clearBranch_halted : (s.clearBranch).halted = s.halted := rfl
@[simp] theorem State.clearBranch_cycle : (s.clearBranch).cycle = s.cycle := rfl
@[simp] theorem State.clearBranch_fetchedCount :
    (s.clearBranch).fetchedCount = s.fetchedCount := rfl
@[simp] theorem State.clearBranch_instCount : (s.clearBranch).instCount = s.instCount := rfl
@[simp] theorem State.clearBranch_totalStalls : (s.clearBranch).totalStalls = s.totalStalls := rfl
@[simp] theorem State.clearBranch_units : (s.clearBranch).units = s.units := rfl
@[simp] theorem State.clearBranch_stage : (s.clearBranch).stage = s.stage := rfl

@[simp] theorem State.setStall_cfg (k : StallKind) (r n : Nat) :
    (s.setStall k r n).cfg = s.cfg := rfl
@[simp] theorem State.setStall_gp (k : StallKind) (r n : Nat) : (s.setStall k r n).gp = s.gp := rfl
@[simp] theorem State.setStall_fp (k : StallKind) (r n : Nat) : (s.setStall k r n).fp = s.fp := rfl
@[simp] theorem State.setStall_pc (k : StallKind) (r n : Nat) : (s.setStall k r n).pc = s.pc := rfl
@[simp] theorem State.setStall_base (k : StallKind) (r n : Nat) :
    (s.setStall k r n).base = s.base := rfl
@[simp] theorem State.setStall_imem (k : StallKind) (r n : Nat) :
    (s.setStall k r n).imem = s.imem := rfl
@[simp] theorem State.setStall_loaded (k : StallKind) (r n : Nat) :
    (s.setStall k r n).loaded = s.loaded := rfl
@[simp] theorem State.setStall_dmem (k : StallKind) (r n : Nat) :
    (s.setStall k r n).dmem = s.dmem := rfl
@[simp] theorem State.setStall_ifid (k : StallKind) (r n : Nat) :
    (s.setStall k r n).ifid = s.ifid := rfl
@[simp] theorem State.setStall_idex (k : StallKind) (r n : Nat) :
    (s.setStall k r n).idex = s.idex := rfl
@[simp] theorem State.setStall_exmem (k : StallKind) (r n : Nat) :
    (s.setStall k r n).exmem = s.exmem := rfl
@[simp] theorem State.setStall_memwb (k : StallKind) (r n : Nat) :
    (s.setStall k r n).memwb = s.memwb := rfl
@[simp] theorem State.setStall_stallKind (k : StallKind) (r n : Nat) :
    (s.setStall k r n).stallKind = k := rfl
@[simp] theorem State.setStall_stallRem (k : StallKind) (r n : Nat) :
    (s.setStall k r n).stallRem = r := rfl
@[simp] theorem State.setStall_stallSize (k : StallKind) (r n : Nat) :
    (s.setStall k r n).stallSize = n := rfl
@[simp] theorem State.setStall_branchPending (k : StallKind) (r n : Nat) :
    (s.setStall k r n).branchPending = s.branchPending := rfl
@[simp] theorem State.setStall_branchTarget (k : StallKind) (r n : Nat) :
    (s.setStall k r n).branchTarget = s.branchTarget := rfl
@[simp] theorem State.setStall_memStall (k : StallKind) (r n : Nat) :
    (s.setStall k r n).memStall = s.memStall := rfl
@[simp] theorem State.setStall_memCnt (k : StallKind) (r n : Nat) :
    (s.setStall k r n).memCnt = s.memCnt := rfl
@[simp] theorem State.setStall_exUnit (k : StallKind) (r n : Nat) :
    (s.setStall k r n).exUnit = s.exUnit := rfl
@[simp] theorem State.setStall_eopFetched (k : StallKind) (r n : Nat) :
    (s.setStall k r n).eopFetched = s.eopFetched := rfl
@[simp] theorem State.setStall_halted (k : StallKind) (r n : Nat) :
    (s.setStall k r n).halted = s.halted := rfl
@[simp] theorem State.setStall_cycle (k : StallKind) (r n : Nat) :
    (s.setStall k r n).cycle = s.cycle := rfl
@[simp] theorem State.setStall_fetchedCount (k : StallKind) (r n : Nat) :
    (s.setStall k r n).fetchedCount = s.fetchedCount := rfl
@[simp] theorem State.setStall_instCount (k : StallKind) (r n : Nat) :
    (s.setStall k r n).instCount = s.instCount := rfl
@[simp] theorem State.setStall_totalStalls (k : StallKind) (r n : Nat) :
    (s.setStall k r n).totalStalls = s.totalStalls := rfl
@[simp] theorem State.setStall_units (k : StallKind) (r n : Nat) :
    (s.setStall k r n).units = s.units := rfl
@[simp] theorem State.setStall_stage (k : StallKind) (r n : Nat) :
    (s.setStall k r n).stage = s.stage := rfl

@[simp] theorem State.countDownStall_cfg : (s.countDownStall).cfg = s.cfg := rfl
@[simp] theorem State.countDownStall_gp : (s.countDownStall).gp = s.gp := rfl
@[simp] theorem State.countDownStall_fp : (s.countDownStall).fp = s.fp := rfl
@[simp] theorem State.countDownStall_pc : (s.countDownStall).pc = s.pc := rfl
@[simp] theorem State.countDownStall_base : (s.countDownStall).base = s.base := rfl
@[simp] theorem State.countDownStall_imem : (s.countDownStall).imem = s.imem := rfl
@[simp] theorem State.countDownStall_loaded : (s.countDownStall).loaded = s.loaded := rfl
@[simp] theorem State.countDownStall_dmem : (s.countDownStall).dmem = s.dmem := rfl
@[simp] theorem State.countDownStall_ifid : (s.countDownStall).ifid = s.ifid := rfl
@[simp] theorem State.countDownStall_idex : (s.countDownStall).idex = s.idex := rfl
@[simp] theorem State.countDownStall_exmem : (s.countDownStall).exmem = s.exmem := rfl
@[simp] theorem State.countDownStall_memwb : (s.countDownStall).memwb = s.memwb := rfl
@[simp] theorem State.countDownStall_stallKind : (s.countDownStall).stallKind = s.stallKind := rfl
@[simp] theorem State.countDownStall_stallRem : (s.countDownStall).stallRem = s.stallRem - 1 := rfl
@[simp] theorem State.countDownStall_stallSize : (s.countDownStall).stallSize = s.stallSize := rfl
@[simp] theorem State.countDownStall_branchPending :
    (s.countDownStall).branchPending = s.branchPending := rfl
@[simp] theorem State.countDownStall_branchTarget :
    (s.countDownStall).branchTarget = s.branchTarget := rfl
@[simp] theorem State.countDownStall_memStall : (s.countDownStall).memStall = s.memStall := rfl
@[simp] theorem State.countDownStall_memCnt : (s.countDownStall).memCnt = s.memCnt := rfl
@[simp] theorem State.countDownStall_exUnit : (s.countDownStall).exUnit = s.exUnit := rfl
@[simp] theorem State.countDownStall_eopFetched :
    (s.countDownStall).eopFetched = s.eopFetched := rfl
@[simp] theorem State.countDownStall_halted : (s.countDownStall).halted = s.halted := rfl
@[simp] theorem State.countDownStall_cycle : (s.countDownStall).cycle = s.cycle := rfl
@[simp] theorem State.countDownStall_fetchedCount :
    (s.countDownStall).fetchedCount = s.fetchedCount := rfl
@[simp] theorem State.countDownStall_instCount : (s.countDownStall).instCount = s.instCount := rfl
@[simp] theorem State.countDownStall_totalStalls :
    (s.countDownStall).totalStalls = s.totalStalls := rfl
@[simp] theorem State.countDownStall_units : (s.countDownStall).units = s.units := rfl
@[simp] theorem State.countDownStall_stage : (s.countDownStall).stage = s.stage := rfl

@[simp] theorem State.setMemStall_cfg (b : Bool) (n : Nat) : (s.setMemStall b n).cfg = s.cfg := rfl
@[simp] theorem State.setMemStall_gp (b : Bool) (n : Nat) : (s.setMemStall b n).gp = s.gp := rfl
@[simp] theorem State.setMemStall_fp (b : Bool) (n : Nat) : (s.setMemStall b n).fp = s.fp := rfl
@[simp] theorem State.setMemStall_pc (b : Bool) (n : Nat) : (s.setMemStall b n).pc = s.pc := rfl
@[simp] theorem State.setMemStall_base (b : Bool) (n : Nat) :
    (s.setMemStall b n).base = s.base := rfl
@[simp] theorem State.setMemStall_imem (b : Bool) (n : Nat) :
    (s.setMemStall b n).imem = s.imem := rfl
@[simp] theorem State.setMemStall_loaded (b : Bool) (n : Nat) :
    (s.setMemStall b n).loaded = s.loaded := rfl
@[simp] theorem State.setMemStall_dmem (b : Bool) (n : Nat) :
    (s.setMemStall b n).dmem = s.dmem := rfl
@[simp] theorem State.setMemStall_ifid (b : Bool) (n : Nat) :
    (s.setMemStall b n).ifid = s.ifid := rfl
@[simp] theorem State.setMemStall_idex (b : Bool) (n : Nat) :
    (s.setMemStall b n).idex = s.idex := rfl
@[simp] theorem State.setMemStall_exmem (b : Bool) (n : Nat) :
    (s.setMemStall b n).exmem = s.exmem := rfl
@[simp] theorem State.setMemStall_memwb (b : Bool) (n : Nat) :
    (s.setMemStall b n).memwb = s.memwb := rfl
@[simp] theorem State.setMemStall_stallKind (b : Bool) (n : Nat) :
    (s.setMemStall b n).stallKind = s.stallKind := rfl
@[simp] theorem State.setMemStall_stallRem (b : Bool) (n : Nat) :
    (s.setMemStall b n).stallRem = s.stallRem := rfl
@[simp] theorem State.setMemStall_stallSize (b : Bool) (n : Nat) :
    (s.setMemStall b n).stallSize = s.stallSize := rfl
@[simp] theorem State.setMemStall_branchPending (b : Bool) (n : Nat) :
    (s.setMemStall b n).branchPending = s.branchPending := rfl
@[simp] theorem State.setMemStall_branchTarget (b : Bool) (n : Nat) :
    (s.setMemStall b n).branchTarget = s.branchTarget := rfl
@[simp] theorem State.setMemStall_memStall (b : Bool) (n : Nat) :
    (s.setMemStall b n).memStall = b := rfl
@[simp] theorem State.setMemStall_memCnt (b : Bool) (n : Nat) :
    (s.setMemStall b n).memCnt = n := rfl
@[simp] theorem State.setMemStall_exUnit (b : Bool) (n : Nat) :
    (s.setMemStall b n).exUnit = s.exUnit := rfl
@[simp] theorem State.setMemStall_eopFetched (b : Bool) (n : Nat) :
    (s.setMemStall b n).eopFetched = s.eopFetched := rfl
@[simp] theorem State.setMemStall_halted (b : Bool) (n : Nat) :
    (s.setMemStall b n).halted = s.halted := rfl
@[simp] theorem State.setMemStall_cycle (b : Bool) (n : Nat) :
    (s.setMemStall b n).cycle = s.cycle := rfl
@[simp] theorem State.setMemStall_fetchedCount (b : Bool) (n : Nat) :
    (s.setMemStall b n).fetchedCount = s.fetchedCount := rfl
@[simp] theorem State.setMemStall_instCount (b : Bool) (n : Nat) :
    (s.setMemStall b n).instCount = s.instCount := rfl
@[simp] theorem State.setMemStall_totalStalls (b : Bool) (n : Nat) :
    (s.setMemStall b n).totalStalls = s.totalStalls := rfl
@[simp] theorem State.setMemStall_units (b : Bool) (n : Nat) :
    (s.setMemStall b n).units = s.units := rfl
@[simp] theorem State.setMemStall_stage (b : Bool) (n : Nat) :
    (s.setMemStall b n).stage = s.stage := rfl

@[simp] theorem State.addStalls_cfg (n : Nat) : (s.addStalls n).cfg = s.cfg := rfl
@[simp] theorem State.addStalls_gp (n : Nat) : (s.addStalls n).gp = s.gp := rfl
@[simp] theorem State.addStalls_fp (n : Nat) : (s.addStalls n).fp = s.fp := rfl
@[simp] theorem State.addStalls_pc (n : Nat) : (s.addStalls n).pc = s.pc := rfl
@[simp] theorem State.addStalls_base (n : Nat) : (s.addStalls n).base = s.base := rfl
@[simp] theorem State.addStalls_imem (n : Nat) : (s.addStalls n).imem = s.imem := rfl
@[simp] theorem State.addStalls_loaded (n : Nat) : (s.addStalls n).loaded = s.loaded := rfl
@[simp] theorem State.addStalls_dmem (n : Nat) : (s.addStalls n).dmem = s.dmem := rfl
@[simp] theorem State.addStalls_ifid (n : Nat) : (s.addStalls n).ifid = s.ifid := rfl
@[simp] theorem State.addStalls_idex (n : Nat) : (s.addStalls n).idex = s.idex := rfl
@[simp] theorem State.addStalls_exmem (n : Nat) : (s.addStalls n).exmem = s.exmem := rfl
@[simp] theorem State.addStalls_memwb (n : Nat) : (s.addStalls n).memwb = s.memwb := rfl
@[simp] theorem State.addStalls_stallKind (n : Nat) : (s.addStalls n).stallKind = s.stallKind := rfl
@[simp] theorem State.addStalls_stallRem (n : Nat) : (s.addStalls n).stallRem = s.stallRem := rfl
@[simp] theorem State.addStalls_stallSize (n : Nat) : (s.addStalls n).stallSize = s.stallSize := rfl
@[simp] theorem State.addStalls_branchPending (n : Nat) :
    (s.addStalls n).branchPending = s.branchPending := rfl
@[simp] theorem State.addStalls_branchTarget (n : Nat) :
    (s.addStalls n).branchTarget = s.branchTarget := rfl
@[simp] theorem State.addStalls_memStall (n : Nat) : (s.addStalls n).memStall = s.memStall := rfl
@[simp] theorem State.addStalls_memCnt (n : Nat) : (s.addStalls n).memCnt = s.memCnt := rfl
@[simp] theorem State.addStalls_exUnit (n : Nat) : (s.addStalls n).exUnit = s.exUnit := rfl
@[simp] theorem State.addStalls_eopFetched (n : Nat) :
    (s.addStalls n).eopFetched = s.eopFetched := rfl
@[simp] theorem State.addStalls_halted (n : Nat) : (s.addStalls n).halted = s.halted := rfl
@[simp] theorem State.addStalls_cycle (n : Nat) : (s.addStalls n).cycle = s.cycle := rfl
@[simp] theorem State.addStalls_fetchedCount (n : Nat) :
    (s.addStalls n).fetchedCount = s.fetchedCount := rfl
@[simp] theorem State.addStalls_instCount (n : Nat) : (s.addStalls n).instCount = s.instCount := rfl
@[simp] theorem State.addStalls_totalStalls (n : Nat) :
    (s.addStalls n).totalStalls = s.totalStalls + BitVec.ofNat 32 n := rfl
@[simp] theorem State.addStalls_units (n : Nat) : (s.addStalls n).units = s.units := rfl
@[simp] theorem State.addStalls_stage (n : Nat) : (s.addStalls n).stage = s.stage := rfl

@[simp] theorem State.setUnits_cfg (us : List FunctionalUnit) (u : Option Nat) :
    (s.setUnits us u).cfg = s.cfg := rfl
@[simp] theorem State.setUnits_gp (us : List FunctionalUnit) (u : Option Nat) :
    (s.setUnits us u).gp = s.gp := rfl
@[simp] theorem State.setUnits_fp (us : List FunctionalUnit) (u : Option Nat) :
    (s.setUnits us u).fp = s.fp := rfl
@[simp] theorem State.setUnits_pc (us : List FunctionalUnit) (u : Option Nat) :
    (s.setUnits us u).pc = s.pc := rfl
@[simp] theorem State.setUnits_base (us : List FunctionalUnit) (u : Option Nat) :
    (s.setUnits us u).base = s.base := rfl
@[simp] theorem State.setUnits_imem (us : List FunctionalUnit) (u : Option Nat) :
    (s.setUnits us u).imem = s.imem := rfl
@[simp] theorem State.setUnits_loaded (us : List FunctionalUnit) (u : Option Nat) :
    (s.setUnits us u).loaded = s.loaded := rfl
@[simp] theorem State.setUnits_dmem (us : List FunctionalUnit) (u : Option Nat) :
    (s.setUnits us u).dmem = s.dmem := rfl
@[simp] theorem State.setUnits_ifid (us : List FunctionalUnit) (u : Option Nat) :
    (s.setUnits us u).ifid = s.ifid := rfl
@[simp] theorem State.setUnits_idex (us : List FunctionalUnit) (u : Option Nat) :
    (s.setUnits us u).idex = s.idex := rfl
@[simp] theorem State.setUnits_exmem (us : List FunctionalUnit) (u : Option Nat) :
    (s.setUnits us u).exmem = s.exmem := rfl
@[simp] theorem State.setUnits_memwb (us : List FunctionalUnit) (u : Option Nat) :
    (s.setUnits us u).memwb = s.memwb := rfl
@[simp] theorem State.setUnits_stallKind (us : List FunctionalUnit) (u : Option Nat) :
    (s.setUnits us u).stallKind = s.stallKind := rfl
@[simp] theorem State.setUnits_stallRem (us : List FunctionalUnit) (u : Option Nat) :
    (s.setUnits us u).stallRem = s.stallRem := rfl
@[simp] theorem State.setUnits_stallSize (us : List FunctionalUnit) (u : Option Nat) :
    (s.setUnits us u).stallSize = s.stallSize := rfl
@[simp] theorem State.setUnits_branchPending (us : List FunctionalUnit) (u : Option Nat) :
    (s.setUnits us u).branchPending = s.branchPending := rfl
@[simp] theorem State.setUnits_branchTarget (us : List FunctionalUnit) (u : Option Nat) :
    (s.setUnits us u).branchTarget = s.branchTarget := rfl
@[simp] theorem State.setUnits_memStall (us : List FunctionalUnit) (u : Option Nat) :
    (s.setUnits us u).memStall = s.memStall := rfl
@[simp] theorem State.setUnits_memCnt (us : List FunctionalUnit) (u : Option Nat) :
    (s.setUnits us u).memCnt = s.memCnt := rfl
@[simp] theorem State.setUnits_exUnit (us : List FunctionalUnit) (u : Option Nat) :
    (s.setUnits us u).exUnit = u := rfl
@[simp] theorem State.setUnits_eopFetched (us : List FunctionalUnit) (u : Option Nat) :
    (s.setUnits us u).eopFetched = s.eopFetched := rfl
@[simp] theorem State.setUnits_halted (us : List FunctionalUnit) (u : Option Nat) :
    (s.setUnits us u).halted = s.halted := rfl
@[simp] theorem State.setUnits_cycle (us : List FunctionalUnit) (u : Option Nat) :
    (s.setUnits us u).cycle = s.cycle := rfl
@[simp] theorem State.setUnits_fetchedCount (us : List FunctionalUnit) (u : Option Nat) :
    (s.setUnits us u).fetchedCount = s.fetchedCount := rfl
@[simp] theorem State.setUnits_instCount (us : List FunctionalUnit) (u : Option Nat) :
    (s.setUnits us u).instCount = s.instCount := rfl
@[simp] theorem State.setUnits_totalStalls (us : List FunctionalUnit) (u : Option Nat) :
    (s.setUnits us u).totalStalls = s.totalStalls := rfl
@[simp] theorem State.setUnits_units (us : List FunctionalUnit) (u : Option Nat) :
    (s.setUnits us u).units = us := rfl
@[simp] theorem State.setUnits_stage (us : List FunctionalUnit) (u : Option Nat) :
    (s.setUnits us u).stage = s.stage := rfl

@[simp] theorem State.endCycle_cfg : (s.endCycle).cfg = s.cfg := rfl
@[simp] theorem State.endCycle_gp : (s.endCycle).gp = s.gp := rfl
@[simp] theorem State.endCycle_fp : (s.endCycle).fp = s.fp := rfl
@[simp] theorem State.endCycle_pc : (s.endCycle).pc = s.pc := rfl
@[simp] theorem State.endCycle_base : (s.endCycle).base = s.base := rfl
@[simp] theorem State.endCycle_imem : (s.endCycle).imem = s.imem := rfl
@[simp] theorem State.endCycle_loaded : (s.endCycle).loaded = s.loaded := rfl
@[simp] theorem State.endCycle_dmem : (s.endCycle).dmem = s.dmem := rfl
@[simp] theorem State.endCycle_ifid : (s.endCycle).ifid = s.ifid := rfl
@[simp] theorem State.endCycle_idex : (s.endCycle).idex = s.idex := rfl
@[simp] theorem State.endCycle_exmem : (s.endCycle).exmem = s.exmem := rfl
@[simp] theorem State.endCycle_memwb : (s.endCycle).memwb = s.memwb := rfl
@[simp] theorem State.endCycle_stallKind : (s.endCycle).stallKind = s.stallKind := rfl
@[simp] theorem State.endCycle_stallRem : (s.endCycle).stallRem = s.stallRem := rfl
@[simp] theorem State.endCycle_stallSize : (s.endCycle).stallSize = s.stallSize := rfl
@[simp] theorem State.endCycle_branchPending : (s.endCycle).branchPending = s.branchPending := rfl
@[simp] theorem State.endCycle_branchTarget : (s.endCycle).branchTarget = s.branchTarget := rfl
@[simp] theorem State.endCycle_memStall : (s.endCycle).memStall = s.memStall := rfl
@[simp] theorem State.endCycle_memCnt : (s.endCycle).memCnt = s.memCnt := rfl
@[simp] theorem State.endCycle_exUnit : (s.endCycle).exUnit = s.exUnit := rfl
@[simp] theorem State.endCycle_eopFetched : (s.endCycle).eopFetched = s.eopFetched := rfl
@[simp] theorem State.endCycle_halted : (s.endCycle).halted = s.halted := rfl
@[simp] theorem State.endCycle_cycle : (s.endCycle).cycle = s.cycle + 1#32 := rfl
@[simp] theorem State.endCycle_fetchedCount : (s.endCycle).fetchedCount = s.fetchedCount := rfl
@[simp] theorem State.endCycle_instCount : (s.endCycle).instCount = s.instCount := rfl
@[simp] theorem State.endCycle_totalStalls : (s.endCycle).totalStalls = s.totalStalls := rfl
@[simp] theorem State.endCycle_units : (s.endCycle).units = s.units.map FunctionalUnit.tick := rfl
@[simp] theorem State.endCycle_stage : (s.endCycle).stage = .IF := rfl

end Sys2Proof.Machine
end

