-- ==== Sys2Proof/Laws/Exec.lean ====
section
/-! SUPPORT. What one meaning does in one stage, said once for every instruction: the tables of
45_pipeline_stages.md R155, R158, R162, R163 and R166 as functions, and `exec` equal to them. Later
proofs cite these equations and do not unfold a meaning. -/

namespace Sys2Proof.Machine

/-! ## The tables -/

/-- `A(r)` (R166). -/
def operandA (s : State) : Instr → Word
  | .lw _ rs _ | .addi _ rs _ | .subi _ rs _ | .lws _ rs _ => s.readGp rs
  | .add _ rs _ | .sub _ rs _ | .xor _ rs _ => s.readGp rs
  | .beqz rs _ | .bnez rs _ | .bltz rs _ | .bgtz rs _ | .blez rs _ | .bgez rs _ => s.readGp rs
  | .sw _ rt _ | .sws _ rt _ => s.readGp rt
  | .adds _ fs _ | .subs _ fs _ | .mults _ fs _ | .divs _ fs _ => s.readFp fs
  | .jump _ | .eop | .nop => undef

/-- `B(r)` (R166). -/
def operandB (s : State) : Instr → Word
  | .add _ _ rt | .sub _ _ rt | .xor _ _ rt => s.readGp rt
  | .sw rs _ _ => s.readGp rs
  | .sws fs _ _ => s.readFp fs
  | .adds _ _ ft | .subs _ _ ft | .mults _ _ ft | .divs _ _ ft => s.readFp ft
  | .lw _ _ _ | .addi _ _ _ | .subi _ _ _ | .lws _ _ _ | .beqz _ _ | .bnez _ _ | .bltz _ _
  | .bgtz _ _ | .blez _ _ | .bgez _ _ | .jump _ | .eop | .nop => undef

/-- What ID writes into `IDEX` (R166). -/
def idexOf (s : State) (i : Instr) : Latch :=
  if i.opcode = .NOP then { bubble with ir := s.ifid.ir }
  else
    { bubble with
      ir := s.ifid.ir
      npc := s.ifid.npc
      a := operandA s i
      b := operandB s i
      imm := i.imm?.getD s.ifid.ir.imm }

/-- `ALU(X)` (R162). -/
def aluOf (cfg : Config) (x : Latch) : Opcode → Word
  | .ADD => x.a + x.b
  | .ADDI => x.a + x.imm
  | .SUB => x.a - x.b
  | .SUBI => x.a - x.imm
  | .XOR => x.a ^^^ x.b
  | .LW | .SW | .LWS | .SWS => x.a + x.imm
  | .BEQZ | .BNEZ | .BLTZ | .BGTZ | .BLEZ | .BGEZ | .JUMP => x.npc + x.imm
  | .ADDS => fpCompute cfg .add x.a x.b
  | .SUBS => fpCompute cfg .sub x.a x.b
  | .MULTS => fpCompute cfg .mul x.a x.b
  | .DIVS => fpCompute cfg .div x.a x.b
  | .NOP => 0#32
  | .EOP => undef

/-- The predicate of a branch or jump, `none` for every other opcode (R163). -/
def takenOf (a : Word) : Opcode → Option Bool
  | .BEQZ => some (isZero a)
  | .BNEZ => some (isNonzero a)
  | .BLTZ => some (isNegative a)
  | .BGTZ => some (isPositive a)
  | .BLEZ => some (isNonpositive a)
  | .BGEZ => some (isNonnegative a)
  | .JUMP => some true
  | .LW | .SW | .ADD | .ADDI | .SUB | .SUBI | .XOR | .EOP | .NOP | .LWS | .SWS | .ADDS | .SUBS
  | .MULTS | .DIVS => none

/-- What EX writes into `EXMEM` (R162). -/
def exmemOf (cfg : Config) (x : Latch) (o : Opcode) : Latch :=
  if o = .NOP then { bubble with ir := x.ir, aluOutput := 0#32 }
  else
    { bubble with
      ir := x.ir
      aluOutput := aluOf cfg x o
      b := x.b
      cond := match takenOf x.a o with
        | some t => condWord t
        | none => undef }

/-- The redirect EX leaves pending (R163). -/
def resolved (s : State) (o : Opcode) : State :=
  match takenOf s.idex.a o with
  | some true => s.branchTo (aluOf s.cfg s.idex o)
  | some false => s.clearBranch
  | none => s

/-- What MEM does (R158). -/
def memAccess (s : State) : Opcode → Result
  | .LW | .LWS => s.loadAccess
  | .SW | .SWS => s.storeAccess
  | .ADD | .ADDI | .SUB | .SUBI | .XOR | .BEQZ | .BNEZ | .BLTZ | .BGTZ | .BLEZ | .BGEZ | .JUMP
  | .EOP | .NOP | .ADDS | .SUBS | .MULTS | .DIVS => .next s.passAlu

/-- What WB does (R155, R156). -/
def wbEffect (s : State) : Instr → State
  | .add rd _ _ | .sub rd _ _ | .xor rd _ _ | .addi rd _ _ | .subi rd _ _ =>
    s.writeGp rd s.memwb.aluOutput
  | .lw rd _ _ => s.writeGp rd s.memwb.lmd
  | .lws fd _ _ => s.writeFp fd s.memwb.lmd
  | .adds fd _ _ | .subs fd _ _ | .mults fd _ _ | .divs fd _ _ => s.writeFp fd s.memwb.aluOutput
  | .eop => s.haltUnlessPending
  | .sw _ _ _ | .sws _ _ _ | .beqz _ _ | .bnez _ _ | .bltz _ _ | .bgtz _ _ | .blez _ _
  | .bgez _ _ | .jump _ | .nop => s

/-! ## `exec` in each stage -/

/-- The instruction exists in the state's variant. -/
def fpOk (s : State) (i : Instr) : Prop := i.opcode.needsFp = true → s.cfg.hasFp = true

theorem exec_IF {s : State} (h : s.stage = .IF) (i : Instr) :
    exec i s = .next (if i.opcode = .EOP then s.countEop else s.countFetch) := by
  cases i <;> simp [exec, execLw, execSw, execAdd, execAddi, execSub, execSubi, execXor, execBeqz,
    execBnez, execBltz, execBgtz, execBlez, execBgez, execJump, execEop, execNop, execLws, execSws,
    execAdds, execSubs, execMults, execDivs, intRegReg, intRegImm, load, store, conditionalBranch,
    fpRegReg, withFp, execUnknown, h, Instr.opcode]

theorem exec_ID {s : State} (h : s.stage = .ID) {i : Instr} (hf : fpOk s i) :
    exec i s = .next (s.setIdex (idexOf s i)) := by
  cases i <;> simp_all [exec, execLw, execSw, execAdd, execAddi, execSub, execSubi, execXor,
    execBeqz, execBnez, execBltz, execBgtz, execBlez, execBgez, execJump, execEop, execNop, execLws,
    execSws, execAdds, execSubs, execMults, execDivs, intRegReg, intRegImm, load, store,
    conditionalBranch, fpRegReg, withFp, Instr.opcode, fpOk, Opcode.needsFp, idexOf, operandA,
    operandB, Instr.imm?, State.decodeIntPair, State.decodeIntImm, State.decodeStoreInt,
    State.decodeStoreFp, State.decodeFpPair, State.decodeNone, State.decodedNop, State.decoded]

theorem exec_EX {s : State} (h : s.stage = .EX) {i : Instr} (hf : fpOk s i) :
    exec i s = .next ((resolved s i.opcode).setExmem (exmemOf s.cfg s.idex i.opcode)) := by
  cases i <;> simp_all [exec, execLw, execSw, execAdd, execAddi, execSub, execSubi, execXor,
    execBeqz, execBnez, execBltz, execBgtz, execBlez, execBgez, execJump, execEop, execNop, execLws,
    execSws, execAdds, execSubs, execMults, execDivs, intRegReg, intRegImm, load, store,
    conditionalBranch, fpRegReg, withFp, Instr.opcode, fpOk, Opcode.needsFp, resolved, exmemOf,
    takenOf, aluOf, State.executed, State.executedNop, State.resolveBranch, branchAddress,
    effectiveAddress] <;>
  split <;> simp_all [condWord]

theorem exec_MEM {s : State} (h : s.stage = .MEM) {i : Instr} (hf : fpOk s i) :
    exec i s = memAccess s i.opcode := by
  cases i <;> simp_all [exec, execLw, execSw, execAdd, execAddi, execSub, execSubi, execXor,
    execBeqz, execBnez, execBltz, execBgtz, execBlez, execBgez, execJump, execEop, execNop, execLws,
    execSws, execAdds, execSubs, execMults, execDivs, intRegReg, intRegImm, load, store,
    conditionalBranch, fpRegReg, withFp, Instr.opcode, fpOk, Opcode.needsFp, memAccess]

theorem exec_WB {s : State} (h : s.stage = .WB) {i : Instr} (hf : fpOk s i) :
    exec i s = .next (wbEffect s i) := by
  cases i <;> simp_all [exec, execLw, execSw, execAdd, execAddi, execSub, execSubi, execXor,
    execBeqz, execBnez, execBltz, execBgtz, execBlez, execBgez, execJump, execEop, execNop, execLws,
    execSws, execAdds, execSubs, execMults, execDivs, intRegReg, intRegImm, load, store,
    conditionalBranch, fpRegReg, withFp, Instr.opcode, fpOk, Opcode.needsFp, wbEffect]

/-- Without `HAS_FP` a floating-point instruction is the unknown opcode (30_encoding.md R89). -/
theorem exec_without_fp {s : State} {i : Instr} (hi : i.opcode.needsFp = true)
    (hf : s.cfg.hasFp = false) : exec i s = execUnknown s := by
  cases i <;> simp_all [Instr.opcode, Opcode.needsFp, exec, execLws, execSws, execAdds, execSubs,
    execMults, execDivs, withFp]

end Sys2Proof.Machine
end

