-- ==== Sys2Proof/Laws/Stages.lean ====
section
/-! SUPPORT. What each stage does to the whole state, said once for every record: the state it leaves,
when it answers one. -/

namespace Sys2Proof.Machine

@[simp] theorem andThen_next (s : State) (k : State → Result) : andThen (.next s) k = k s := rfl

@[simp] theorem andThen_fault (f : Fault) (k : State → Result) :
    andThen (.fault f) k = .fault f := rfl

@[simp] theorem andThen_refused (r : Refusal) (k : State → Result) :
    andThen (.refused r) k = .refused r := rfl

/-- A chain answers a next state only through a next state of its first part. -/
theorem andThen_eq_next {o : Result} {k : State → Result} {t : State} :
    andThen o k = .next t ↔ ∃ s, o = .next s ∧ k s = .next t := by
  cases o <;> simp [andThen]

/-- The instruction whose row of the ID, EX and MEM tables a record follows: the unknown opcode has
the row of `EOP` there (R162, R166). -/
def Decoded.middle : Decoded → Instr
  | .instr i => i
  | .unknown => .eop
  | .badRegister _ _ => .eop

/-- The instruction whose row of the IF and WB tables a record follows: the unknown opcode has the row
of `NOP` there (R155, R169). -/
def Decoded.ends : Decoded → Instr
  | .instr i => i
  | .unknown => .nop
  | .badRegister _ _ => .nop

theorem fpOk_of_decode {s : State} {r : Record} {i : Instr}
    (h : decodeRecord s.cfg.hasFp r = .instr i) (g : Stage) : fpOk (s.atStage g) i :=
  fun hi => hasFp_of_decode h hi

/-- A refused record is one that names no register; every other record goes through IF. -/
theorem execRecord_IF (r : Record) (s : State) :
    execRecord .IF r s =
      if registersInRange s.cfg.hasFp r then
        .next (if r.op s.cfg.hasFp = some .EOP then (s.atStage .IF).countEop
          else (s.atStage .IF).countFetch)
      else .refused .registerOutOfRange := by
  cases h : decodeRecord s.cfg.hasFp r with
  | instr i =>
    simp [execRecord, registersInRange, h, exec_IF (s := s.atStage .IF) rfl, op_of_decode h]
  | unknown => simp [execRecord, registersInRange, h, decode_unknown.1 h, execUnknown]
  | badRegister f v => simp [execRecord, registersInRange, h]

theorem execRecord_ID (r : Record) (s : State) :
    execRecord .ID r s =
      if registersInRange s.cfg.hasFp r then
        .next ((s.atStage .ID).setIdex
          (idexOf (s.atStage .ID) (Decoded.middle (decodeRecord s.cfg.hasFp r))))
      else .refused .registerOutOfRange := by
  cases h : decodeRecord s.cfg.hasFp r with
  | instr i =>
    simp [execRecord, registersInRange, h, exec_ID (s := s.atStage .ID) rfl (fpOk_of_decode h _),
      Decoded.middle]
  | unknown =>
    simp [execRecord, registersInRange, h, execUnknown, Decoded.middle, idexOf, Instr.opcode,
      operandA, operandB, Instr.imm?, State.decodeNone, State.decoded]
  | badRegister f v => simp [execRecord, registersInRange, h]

theorem execRecord_EX (r : Record) (s : State) :
    execRecord .EX r s =
      if registersInRange s.cfg.hasFp r then
        .next ((resolved (s.atStage .EX) (Decoded.middle (decodeRecord s.cfg.hasFp r)).opcode).setExmem
          (exmemOf s.cfg s.idex (Decoded.middle (decodeRecord s.cfg.hasFp r)).opcode))
      else .refused .registerOutOfRange := by
  cases h : decodeRecord s.cfg.hasFp r with
  | instr i =>
    simp [execRecord, registersInRange, h, exec_EX (s := s.atStage .EX) rfl (fpOk_of_decode h _),
      Decoded.middle]
  | unknown =>
    simp [execRecord, registersInRange, h, execUnknown, Decoded.middle, exmemOf, resolved, takenOf,
      aluOf, Instr.opcode, State.executed]
  | badRegister f v => simp [execRecord, registersInRange, h]

theorem execRecord_MEM (r : Record) (s : State) :
    execRecord .MEM r s =
      if registersInRange s.cfg.hasFp r then
        memAccess (s.atStage .MEM) (Decoded.middle (decodeRecord s.cfg.hasFp r)).opcode
      else .refused .registerOutOfRange := by
  cases h : decodeRecord s.cfg.hasFp r with
  | instr i =>
    simp [execRecord, registersInRange, h, exec_MEM (s := s.atStage .MEM) rfl (fpOk_of_decode h _),
      Decoded.middle]
  | unknown =>
    simp [execRecord, registersInRange, h, execUnknown, Decoded.middle, memAccess, Instr.opcode]
  | badRegister f v => simp [execRecord, registersInRange, h]

theorem execRecord_WB (r : Record) (s : State) :
    execRecord .WB r s =
      if registersInRange s.cfg.hasFp r then
        .next (wbEffect (s.atStage .WB) (Decoded.ends (decodeRecord s.cfg.hasFp r)))
      else .refused .registerOutOfRange := by
  cases h : decodeRecord s.cfg.hasFp r with
  | instr i =>
    simp [execRecord, registersInRange, h, exec_WB (s := s.atStage .WB) rfl (fpOk_of_decode h _),
      Decoded.ends]
  | unknown => simp [execRecord, registersInRange, h, execUnknown, Decoded.ends, wbEffect]
  | badRegister f v => simp [execRecord, registersInRange, h]

/-! ## The rows of a record, by its opcode -/

/-- A record with no unknown opcode follows its own opcode's row in ID, EX and MEM. -/
theorem middle_opcode {b : Bool} {r : Record} (h : registersInRange b r = true) :
    (Decoded.middle (decodeRecord b r)).opcode = (r.op b).getD .EOP := by
  unfold registersInRange at h
  split at h
  · cases h
  · next i hi => simp [hi, Decoded.middle, op_of_decode hi]
  · next hu => simp [hu, Decoded.middle, decode_unknown.1 hu, Instr.opcode]

/-- A record with no unknown opcode follows its own opcode's row in WB. -/
theorem ends_opcode {b : Bool} {r : Record} (h : registersInRange b r = true) :
    (Decoded.ends (decodeRecord b r)).opcode = (r.op b).getD .NOP := by
  unfold registersInRange at h
  split at h
  · cases h
  · next i hi => simp [hi, Decoded.ends, op_of_decode hi]
  · next hu => simp [hu, Decoded.ends, decode_unknown.1 hu, Instr.opcode]

/-! ## What each stage leaves unchanged -/

/-- WB changes the register files, `halted` and nothing else (R155, R156). -/
theorem wbStage_frame {s t : State} (h : wbStage s = .next t) :
    ∃ gp fp,
      t = { s with
        gp := gp
        fp := fp
        halted := s.halted ||
          (decide (s.memwb.ir.op s.cfg.hasFp = some .EOP) && !s.branchPending)
        stage := .WB } := by
  rw [wbStage, execRecord_WB] at h
  split at h
  · next hr =>
    cases h
    have ho := ends_opcode hr
    have hne : ∀ o, (Decoded.ends (decodeRecord s.cfg.hasFp s.memwb.ir)).opcode = o → o ≠ .EOP →
        s.memwb.ir.op s.cfg.hasFp ≠ some .EOP := by
      intro o h1 h2 h3
      rw [h3] at ho
      exact h2 (h1 ▸ ho)
    generalize Decoded.ends (decodeRecord s.cfg.hasFp s.memwb.ir) = i at ho hne
    cases i
    case eop =>
      have : s.memwb.ir.op s.cfg.hasFp = some .EOP := by
        revert ho; cases s.memwb.ir.op s.cfg.hasFp <;> simp [Instr.opcode, eq_comm]
      exact ⟨s.gp, s.fp, by simp [wbEffect, State.haltUnlessPending, State.atStage, this]⟩
    all_goals
      have h3 := hne _ rfl (by simp [Instr.opcode])
      simp only [wbEffect, State.writeGp, State.writeFp, State.atStage, h3, decide_false,
        Bool.false_and, Bool.or_false]
      exact ⟨_, _, rfl⟩
  · cases h

/-- Everything a load's access can do. -/
theorem loadAccess_eq_next {s t : State} (h : s.loadAccess = .next t) :
    inDataMemory s.cfg s.exmem.aluOutput = true ∧
      t = s.loaded4 (s.dmem.readWord s.exmem.aluOutput.toNat) := by
  unfold State.loadAccess at h
  split at h
  · next hr => exact ⟨hr, (Host.Outcome.next.inj h).symm⟩
  · cases h

/-- Everything a store's access can do. -/
theorem storeAccess_eq_next {s t : State} (h : s.storeAccess = .next t) :
    inDataMemory s.cfg s.exmem.aluOutput = true ∧
      t = (s.setDmem (s.dmem.writeWord s.exmem.aluOutput.toNat s.exmem.b)).stored4 := by
  unfold State.storeAccess at h
  split at h
  · next hr => exact ⟨hr, (Host.Outcome.next.inj h).symm⟩
  · cases h

/-- What MEM does is a load's access, a store's access or the ALU value copied through. -/
theorem memAccess_cases (s : State) (o : Opcode) :
    memAccess s o = s.loadAccess ∨ memAccess s o = s.storeAccess ∨
      memAccess s o = .next s.passAlu := by
  cases o <;> simp [memAccess]

/-- MEM's access changes data memory, `MEMWB` and nothing else. The record moves into `MEMWB`. -/
theorem memAccess_frame {s t : State} {o : Opcode} (h : memAccess s o = .next t) :
    ∃ m l, t = { s with dmem := m, memwb := l } ∧ l.ir = s.exmem.ir := by
  rcases memAccess_cases s o with ho | ho | ho <;> rw [ho] at h
  · obtain ⟨-, rfl⟩ := loadAccess_eq_next h
    exact ⟨s.dmem, _, rfl, rfl⟩
  · obtain ⟨-, rfl⟩ := storeAccess_eq_next h
    exact ⟨_, _, rfl, rfl⟩
  · cases h
    exact ⟨s.dmem, _, rfl, rfl⟩

theorem memProceed_exmem (s : State) : (memProceed s).exmem = s.exmem := by
  unfold memProceed; split <;> rfl

/-- MEM changes data memory, `MEMWB`, the memory-latency state and nothing else (R157, R158). The
record moves into `MEMWB`. -/
theorem memStage_frame {s t : State} (h : memStage s = .next t) :
    ∃ m l, t = { memProceed s with dmem := m, memwb := l, stage := .MEM } ∧
      l.ir = s.exmem.ir := by
  rw [memStage, execRecord_MEM] at h
  split at h
  · obtain ⟨m, l, rfl, hl⟩ := memAccess_frame h
    exact ⟨m, l, rfl, hl.trans (by simp [memProceed_exmem])⟩
  · cases h

/-- EX changes `EXMEM`, the redirect, the unit held and nothing else (R161 to R163). -/
theorem exStage_frame {s t : State} (h : exStage s = .next t) :
    ∃ bp bt,
      t = { releaseUnit s with
        exmem := exmemOf s.cfg s.idex ((s.idex.ir.op s.cfg.hasFp).getD .EOP)
        branchPending := bp
        branchTarget := bt
        stage := .EX } ∧
      (isBranch s.cfg.hasFp s.idex.ir = false →
        bp = s.branchPending ∧ bt = s.branchTarget) := by
  have hc : (releaseUnit s).cfg = s.cfg := by unfold releaseUnit; split <;> rfl
  have hi : (releaseUnit s).idex = s.idex := by unfold releaseUnit; split <;> rfl
  have hb : (releaseUnit s).branchPending = s.branchPending := by
    unfold releaseUnit; split <;> rfl
  have ht : (releaseUnit s).branchTarget = s.branchTarget := by unfold releaseUnit; split <;> rfl
  rw [exStage, execRecord_EX] at h
  split at h
  · next hr =>
    rw [hc] at hr
    simp only [hc, hi, middle_opcode hr, Host.Outcome.next.injEq] at h
    subst h
    have hbr : isBranch s.cfg.hasFp s.idex.ir = false →
        ∀ a, takenOf a ((s.idex.ir.op s.cfg.hasFp).getD .EOP) = none := by
      unfold isBranch; split <;> simp_all [takenOf]
    generalize (s.idex.ir.op s.cfg.hasFp).getD .EOP = o at hbr
    cases hto : takenOf s.idex.a o with
    | none =>
      refine ⟨s.branchPending, s.branchTarget, ?_, fun _ => ⟨rfl, rfl⟩⟩
      simp [resolved, hi, hto, ← hb, ← ht, State.setExmem, State.atStage]
    | some v =>
      cases v
      · refine ⟨false, s.branchTarget, ?_, fun hf => by rw [hbr hf] at hto; cases hto⟩
        simp [resolved, hi, hto, ← ht, State.setExmem, State.atStage, State.clearBranch]
      · refine ⟨true, aluOf s.cfg s.idex o, ?_, fun hf => by rw [hbr hf] at hto; cases hto⟩
        simp [resolved, hc, hi, hto, State.setExmem, State.atStage, State.branchTo]
  · cases h

/-- ID's operand read changes `IDEX` and nothing else (R166). -/
theorem execRecord_ID_frame {r : Record} {s t : State} (h : execRecord .ID r s = .next t) :
    t = { s with
      idex := idexOf s (Decoded.middle (decodeRecord s.cfg.hasFp r)), stage := .ID } := by
  rw [execRecord_ID] at h
  split at h
  · exact (Host.Outcome.next.inj h).symm
  · cases h

/-- A fetch changes `pc`, `IFID`, the redirect, the fetch counters and nothing else (R168, R169). -/
theorem fetchAt_frame {s t : State} (h : fetchAt s = .next t) :
    ∃ r, fetchRecord s = .ok r ∧ registersInRange s.cfg.hasFp r = true ∧
      t = { s with
        pc := nextPc s
        ifid := { bubble with ir := r, npc := nextPc s }
        fetchedCount := s.fetchedCount + 1#32
        instCount := if r.op s.cfg.hasFp = some .EOP then s.instCount else s.instCount + 1#32
        eopFetched := s.eopFetched || decide (r.op s.cfg.hasFp = some .EOP)
        stage := .IF } := by
  unfold fetchAt at h
  split at h
  · cases h
  · next r hr =>
    rw [execRecord_IF] at h
    split at h
    · next hreg =>
      refine ⟨r, hr, hreg, ?_⟩
      cases h
      simp only [latchFetch, State.setIfid_cfg, State.setPc_cfg]
      split <;> simp_all [State.countEop, State.countFetch, State.setIfid, State.setPc,
        State.atStage]
    · cases h

/-! ## The cycle -/

/-- Everything a cycle can do, when it answers a next state: a memory wait cycle, an EX wait cycle, or
an unfrozen cycle (R150 to R172). -/
theorem cycleOf_cases {s t : State} (h : cycleOf s = .next t) :
    ∃ s1, wbStage s = .next s1 ∧
      ((memWaits s1 = true ∧ t = (hazardHandler s true (memWaitCycle s1)).endCycle) ∨
       (memWaits s1 = false ∧ ∃ s2, memStage s1 = .next s2 ∧
        ((exDone (acquireUnit s2) = false ∧
            t = (hazardHandler s true (exWaitCycle (acquireUnit s2))).endCycle) ∨
         (exDone (acquireUnit s2) = true ∧ ∃ s3 s4 s5, exStage (acquireUnit s2) = .next s3 ∧
            idStage (hazardHandler s false s3) = .next s4 ∧ ifStage s4 = .next s5 ∧
            t = s5.endCycle)))) := by
  obtain ⟨s1, h1, h⟩ := andThen_eq_next.1 h
  refine ⟨s1, h1, ?_⟩
  unfold memAndFront at h
  split at h
  · next hw => exact .inl ⟨hw, (Host.Outcome.next.inj h).symm⟩
  · next hw =>
    obtain ⟨s2, h2, h⟩ := andThen_eq_next.1 h
    refine .inr ⟨by simpa using hw, s2, h2, ?_⟩
    unfold exAndFront at h
    simp only at h
    split at h
    · next hd =>
      obtain ⟨s3, h3, h⟩ := andThen_eq_next.1 h
      obtain ⟨s4, h4, h⟩ := andThen_eq_next.1 h
      obtain ⟨s5, h5, h⟩ := andThen_eq_next.1 h
      exact .inr ⟨hd, s3, s4, s5, h3, h4, h5, (Host.Outcome.next.inj h).symm⟩
    · next hd => exact .inl ⟨by simpa using hd, (Host.Outcome.next.inj h).symm⟩

/-- A step of a running machine is a cycle; a halted one stays (R153). -/
theorem driverStep_cases {s t : State} (h : driverStep s = .next t) :
    s.loaded = true ∧ ((s.halted = true ∧ t = s) ∨ (s.halted = false ∧ cycleOf s = .next t)) := by
  unfold driverStep at h
  split at h
  · cases h
  · next hl =>
    refine ⟨by simpa using hl, ?_⟩
    split at h
    · next hh => exact .inl ⟨hh, (Host.Outcome.next.inj h).symm⟩
    · next hh => exact .inr ⟨by simpa using hh, h⟩

end Sys2Proof.Machine
end

