-- ==== Sys2Proof/Laws/Control.lean ====
section
/-! SUPPORT. Everything the hazard handler, the unit tracker, ID, IF and the host's calls can do, said
once. -/

namespace Sys2Proof.Machine

/-! ## The hazard handler -/

/-- The handler changes the stall state, `total_stalls` and nothing else. -/
theorem hazardHandler_frame (start : State) (frozen : Bool) (s : State) :
    ∃ k r z n, hazardHandler start frozen s =
      { s with stallKind := k, stallRem := r, stallSize := z, totalStalls := n } := by
  unfold hazardHandler setHazardStall releaseStall startBranchStall
  dsimp only
  repeat' split
  all_goals exact ⟨_, _, _, _, rfl⟩

/-- A stall in progress, or any stall in a frozen cycle, is left as it is (R206, R209). -/
theorem hazardHandler_held {start s : State} {frozen : Bool} (h : s.stallKind ≠ .NONE)
    (hr : frozen = true ∨ s.stallRem ≠ 0) : hazardHandler start frozen s = s := by
  unfold hazardHandler
  rw [if_neg h, if_neg]
  rintro ⟨h0, hf⟩
  rcases hr with hr | hr
  · rw [hr] at hf; cases hf
  · exact hr h0

/-- The setting of a stall (R206). -/
theorem hazardHandler_set {start s : State} {frozen : Bool} (h : s.stallKind = .NONE) :
    hazardHandler start frozen s =
      setHazardStall start.ifid.ir start.idex.ir start.exmem.ir start.memwb.ir s := by
  unfold hazardHandler
  rw [if_pos h]

/-- The release of a stall (R206, R207). -/
theorem hazardHandler_release {start s : State} (h : s.stallKind ≠ .NONE) (hr : s.stallRem = 0) :
    hazardHandler start false s = releaseStall start.ifid.ir s := by
  unfold hazardHandler
  rw [if_neg h, if_pos ⟨hr, rfl⟩]

/-! ## The functional units -/

/-- An allocation changes the unit table, the unit held and nothing else. -/
theorem acquireUnit_frame (s : State) :
    ∃ us held, acquireUnit s = { s with units := us, exUnit := held } := by
  unfold acquireUnit
  repeat' split
  all_goals exact ⟨_, _, rfl⟩

/-- An allocation happens only for a record that needs a unit and holds none, and takes the first free
unit of the class (R223). -/
theorem acquireUnit_cases (s : State) :
    acquireUnit s = s ∨
      ∃ need j, unitClass s.cfg.hasFp s.idex.ir = some need ∧ s.exUnit = none ∧
        freeUnit need s.units = some j ∧
        acquireUnit s = s.setUnits (occupy s.units j s.idex.ir) (some j) := by
  unfold acquireUnit
  split
  · next need hc hu =>
    split
    · next j hj => exact .inr ⟨need, j, hc, hu, hj, rfl⟩
    · exact .inl rfl
  · exact .inl rfl
  · exact .inl rfl

/-- Giving the unit back changes the unit held and nothing else (R224). -/
theorem releaseUnit_frame (s : State) : ∃ held, releaseUnit s = { s with exUnit := held } := by
  unfold releaseUnit
  split
  · exact ⟨_, rfl⟩
  · exact ⟨_, rfl⟩

/-! ## ID and IF -/

/-- ID after the handler changes `IDEX`, the count of a RAW stall and nothing else. -/
theorem idStage_frame {s t : State} (h : idStage s = .next t) :
    ∃ l r g, t = { s with idex := l, stallRem := r, stage := g } ∧
      (s.stallKind ≠ .RAW → r = s.stallRem) := by
  unfold idStage at h
  split at h
  · next hk =>
    cases h
    exact ⟨_, _, _, rfl, fun hn => absurd hk hn⟩
  · exact ⟨_, _, _, execRecord_ID_frame h, fun _ => rfl⟩

/-- Everything IF can do: the bubble of a BRANCH stall, the hold of a RAW stall, the bubble after an
`EOP`, or a fetch (R167). -/
theorem ifStage_cases {s t : State} (h : ifStage s = .next t) :
    (s.stallKind = .BRANCH ∧ t = (s.setIfid bubble).countDownStall) ∨
    (s.stallKind = .RAW ∧ t = s) ∨
    (s.stallKind = .NONE ∧ s.eopFetched = true ∧ t = s.setIfid bubble) ∨
    (s.stallKind = .NONE ∧ s.eopFetched = false ∧ fetchAt (redirect s) = .next t) := by
  unfold ifStage at h
  split at h
  · next hk => exact .inl ⟨hk, (Host.Outcome.next.inj h).symm⟩
  · next hb =>
    split at h
    · next hk => exact .inr (.inl ⟨hk, (Host.Outcome.next.inj h).symm⟩)
    · next hr =>
      have hn : s.stallKind = .NONE := by cases hk : s.stallKind <;> simp_all
      split at h
      · next he => exact .inr (.inr (.inl ⟨hn, he, (Host.Outcome.next.inj h).symm⟩))
      · next he => exact .inr (.inr (.inr ⟨hn, by simpa using he, h⟩))

/-! ## The host's calls -/

/-- Everything a load can do (R273). -/
theorem loadProgram_eq_next {rs : List Record} {b : Word} {s t : State}
    (h : loadProgram rs b s = .next t) :
    s.loaded = false ∧ fitsCapacity s.cfg rs.length = true ∧
      rs.all (registersInRange s.cfg.hasFp) = true ∧ t = s.withProgram rs b := by
  unfold loadProgram at h
  split at h
  · cases h
  · next hl =>
    split at h
    · cases h
    · next hc =>
      split at h
      · next hr =>
        exact ⟨by simpa using hl, by simpa using hc, hr, (Host.Outcome.next.inj h).symm⟩
      · cases h

/-! ## Capacities and the redirect -/

theorem withinMaxUnits_iff {cfg : Config} {n : Nat} :
    withinMaxUnits cfg n = true ↔ ∀ m ∈ cfg.maxUnits, n ≤ m := by
  unfold withinMaxUnits
  cases cfg.maxUnits <;> simp

theorem fitsCapacity_iff {cfg : Config} {n : Nat} :
    fitsCapacity cfg n = true ↔ ∀ m ∈ cfg.imemCapacity, n ≤ m := by
  unfold fitsCapacity
  cases cfg.imemCapacity <;> simp

/-- Where a redirect leaves `pc`: at the target, if one is pending (R168). -/
theorem redirect_pc (s : State) :
    (redirect s).pc = if s.branchPending = true then s.branchTarget else s.pc := by
  unfold redirect
  split <;> rfl

/-- Everything a redirect can change. -/
theorem redirect_frame (s : State) :
    redirect s = { s with pc := (redirect s).pc, branchPending := false } := by
  unfold redirect
  split
  · rfl
  · next h => simp only [Bool.not_eq_true] at h; cases s; cases h; rfl

/-- A fetch answers the record at the index of an aligned `pc` (20_memory.md R69, R70). -/
theorem fetchRecord_eq_ok {s : State} {r : Record} :
    fetchRecord s = .ok r ↔ (s.pc - s.base).toNat % 4 = 0 ∧ s.imem[fetchIndex s]? = some r := by
  unfold fetchRecord
  split
  · next h => exact ⟨(by intro h'; cases h'), fun h' => absurd h'.1 h⟩
  · next h =>
    split
    · next r' hr => simp_all
    · next hn => simp_all

/-- Everything a configuration of units can do (R272). -/
theorem initExecUnit_eq_next {k : UnitKind} {l n : Nat} {s t : State}
    (h : initExecUnit k l n s = .next t) :
    s.cfg.hasFp = true ∧ s.loaded = false ∧ 0 < l ∧
      t = s.setUnits (s.units ++ List.replicate n (freshUnit k l)) s.exUnit := by
  unfold initExecUnit at h
  split at h
  · cases h
  · next hf =>
    split at h
    · cases h
    · next hl =>
      split at h
      · cases h
      · next h0 =>
        split at h
        · exact ⟨by simpa using hf, by simpa using hl, Nat.pos_of_ne_zero h0,
            (Host.Outcome.next.inj h).symm⟩
        · cases h

/-- Everything a host write can do (R276). -/
theorem writeMemory_eq_next {a v : Word} {s t : State} (h : writeMemory a v s = .next t) :
    inDataMemory s.cfg a = true ∧ t = s.setDmem (s.dmem.writeWord a.toNat v) := by
  unfold writeMemory at h
  split at h
  · next hr => exact ⟨hr, (Host.Outcome.next.inj h).symm⟩
  · cases h

end Sys2Proof.Machine
end

