-- ==== Sys2Proof/Laws/Memory.lean ====
section
/-! SUPPORT. Data memory: reading back a written byte, the canonical form every operation keeps, and the
bytes of a word (20_memory.md R62, R63). -/

namespace Sys2Proof.Machine

@[simp] theorem Memory.read_nil (a : Nat) : Memory.read [] a = Memory.fill := rfl

theorem Memory.read_cons (k : Nat) (b : Byte) (m : Memory) (a : Nat) :
    Memory.read ((k, b) :: m) a = if k = a then b else Memory.read m a := rfl

/-- `Memory.wfAbove` of a non-empty list, as its three conditions. -/
theorem Memory.wfAbove_cons (lo : Option Nat) (k : Nat) (b : Byte) (m : Memory) :
    Memory.wfAbove lo ((k, b) :: m) = true ↔
      (∀ l ∈ lo, l < k) ∧ b ≠ Memory.fill ∧ Memory.wfAbove (some k) m = true := by
  cases lo <;> simp [Memory.wfAbove, and_assoc]

/-- A list above a bound is above any smaller bound, or above none. -/
theorem Memory.wfAbove_mono {lo lo' : Option Nat} {m : Memory} (h : Memory.wfAbove lo m = true)
    (hlo : ∀ l ∈ lo', ∃ k ∈ lo, l ≤ k) : Memory.wfAbove lo' m = true := by
  cases m with
  | nil => rfl
  | cons c m =>
    obtain ⟨k, b⟩ := c
    rw [Memory.wfAbove_cons] at h ⊢
    refine ⟨fun l hl => ?_, h.2⟩
    obtain ⟨l', hl', hle⟩ := hlo l hl
    exact lt_of_le_of_lt hle (h.1 l' hl')

/-- Below the bound nothing is listed. -/
theorem Memory.read_below {k a : Nat} {m : Memory} (h : Memory.wfAbove (some k) m = true)
    (ha : a ≤ k) : Memory.read m a = Memory.fill := by
  induction m generalizing k with
  | nil => rfl
  | cons c m ih =>
    obtain ⟨k', b⟩ := c
    rw [Memory.wfAbove_cons] at h
    have hk : k < k' := h.1 k rfl
    rw [Memory.read_cons, if_neg (by omega)]
    exact ih h.2.2 (by omega)

/-- A write above the bound keeps the canonical form above it. -/
theorem Memory.write_wfAbove {lo : Option Nat} {m : Memory} (h : Memory.wfAbove lo m = true)
    {a : Nat} (ha : ∀ l ∈ lo, l < a) (b : Byte) : Memory.wfAbove lo (Memory.write m a b) = true := by
  induction m generalizing lo with
  | nil =>
    by_cases hb : b = Memory.fill
    · simp [Memory.write, hb, Memory.wfAbove]
    · simp only [Memory.write, hb, if_false]
      exact (Memory.wfAbove_cons ..).2 ⟨ha, hb, rfl⟩
  | cons c m ih =>
    obtain ⟨k, c⟩ := c
    have hc := (Memory.wfAbove_cons ..).1 h
    unfold Memory.write
    split_ifs with h1 h2 h3 h4
    · exact h
    · exact (Memory.wfAbove_cons ..).2
        ⟨ha, h2, (Memory.wfAbove_cons ..).2 ⟨by simpa using h1, hc.2⟩⟩
    · exact Memory.wfAbove_mono hc.2.2 fun l hl => ⟨k, rfl, (hc.1 l hl).le⟩
    · subst h3
      exact (Memory.wfAbove_cons ..).2 ⟨ha, h4, hc.2.2⟩
    · exact (Memory.wfAbove_cons ..).2
        ⟨hc.1, hc.2.1, ih hc.2.2 (by simp only [Option.mem_def, Option.some.injEq]; omega)⟩

/-- Every write keeps the canonical form. -/
theorem Memory.write_wf {m : Memory} (h : m.wf = true) (a : Nat) (b : Byte) :
    (m.write a b).wf = true :=
  Memory.write_wfAbove h (by simp) b

/-- A word store keeps the canonical form. -/
theorem Memory.writeWord_wf {m : Memory} (h : m.wf = true) (a : Nat) (v : Word) :
    (m.writeWord a v).wf = true :=
  Memory.write_wf (Memory.write_wf (Memory.write_wf (Memory.write_wf h ..) ..) ..) ..

theorem Memory.read_write_above {lo : Option Nat} {m : Memory} (h : Memory.wfAbove lo m = true)
    (a c : Nat) (b : Byte) : (m.write a b).read c = if c = a then b else m.read c := by
  induction m generalizing lo with
  | nil =>
    by_cases hb : b = Memory.fill
    · simp [Memory.write, hb]
    · simp [Memory.write, hb, Memory.read_cons, eq_comm]
  | cons d m ih =>
    obtain ⟨k, d⟩ := d
    have hd := (Memory.wfAbove_cons ..).1 h
    have below : ∀ x, x ≤ k → Memory.read m x = Memory.fill := fun x hx => Memory.read_below hd.2.2 hx
    by_cases hc : c = a
    · subst hc
      rw [if_pos rfl]
      unfold Memory.write
      split_ifs with h1 h2 h3 h4
      · rw [Memory.read_cons, if_neg (by omega), below c h1.le, h2]
      · rw [Memory.read_cons, if_pos rfl]
      · rw [below c h3.le, h4]
      · rw [Memory.read_cons, if_pos rfl]
      · rw [Memory.read_cons, if_neg (by omega), ih hd.2.2, if_pos rfl]
    · rw [if_neg hc]
      unfold Memory.write
      split_ifs with h1 h2 h3 h4
      · rfl
      · rw [Memory.read_cons, if_neg (by omega)]
      · rw [Memory.read_cons, if_neg (by omega)]
      · rw [Memory.read_cons, Memory.read_cons, if_neg (by omega), if_neg (by omega)]
      · rw [Memory.read_cons, Memory.read_cons, ih hd.2.2, if_neg hc]

/-- Reading a byte after a write: the byte written at its address, every other as before. -/
theorem Memory.read_write {m : Memory} (h : m.wf = true) (a c : Nat) (b : Byte) :
    (m.write a b).read c = if c = a then b else m.read c :=
  Memory.read_write_above h a c b

/-- Every address listed after a write was listed before or is the address written. -/
theorem Memory.mem_write {m : Memory} {a : Nat} {b : Byte} {c : Host.Cell}
    (h : c ∈ m.write a b) : c ∈ m ∨ c.1 = a := by
  induction m with
  | nil =>
    by_cases hb : b = Memory.fill <;> simp_all [Memory.write]
  | cons d m ih =>
    obtain ⟨k, d⟩ := d
    unfold Memory.write at h
    split_ifs at h with h1 h2 h3 h4
    · exact .inl h
    · rcases List.mem_cons.1 h with rfl | h
      · exact .inr rfl
      · exact .inl h
    · exact .inl (List.mem_cons_of_mem _ h)
    · rcases List.mem_cons.1 h with rfl | h
      · exact .inr rfl
      · exact .inl (List.mem_cons_of_mem _ h)
    · rcases List.mem_cons.1 h with rfl | h
      · exact .inl List.mem_cons_self
      · exact (ih h).imp_left (List.mem_cons_of_mem _)

/-- Every address listed after a word store was listed before or is one of its four bytes. -/
theorem Memory.mem_writeWord {m : Memory} {a : Nat} {v : Word} {c : Host.Cell}
    (h : c ∈ m.writeWord a v) : c ∈ m ∨ (a ≤ c.1 ∧ c.1 ≤ a + 3) := by
  rcases Memory.mem_write h with h | h
  · rcases Memory.mem_write h with h | h
    · rcases Memory.mem_write h with h | h
      · rcases Memory.mem_write h with h | h
        · exact .inl h
        · right; omega
      · right; omega
    · right; omega
  · right; omega

end Sys2Proof.Machine
end

