-- ==== Sys2Proof/Laws/Numerics.lean ====
section
/-! SUPPORT. The numerics of a configuration (00_scope.md R8, 43_fp_arith.md R139): any four functions can
be given as its argument. -/

namespace Sys2Proof.Machine

/-- Everything a list of entries can answer: the result of an entry for these operands. -/
theorem givenValue_eq_some {es : List FpEntry} {op : FpOp} {a b v : Word}
    (h : givenValue es op a b = some v) : ∃ e ∈ es, e = ⟨op, a, b, v⟩ := by
  obtain ⟨e, he, rfl⟩ := Option.map_eq_some_iff.1 h
  have hp := List.find?_some he
  simp only [Bool.and_eq_true, beq_iff_eq] at hp
  obtain ⟨⟨rfl, rfl⟩, rfl⟩ := hp
  exact ⟨e, List.mem_of_find?_eq_some he, rfl⟩

/-- A list with an entry for these operands answers. -/
theorem givenValue_isSome {es : List FpEntry} {e : FpEntry} (h : e ∈ es) :
    (givenValue es e.op e.a e.b).isSome = true := by
  simp only [givenValue, Option.isSome_map, List.find?_isSome]
  exact ⟨e, h, by simp⟩

theorem mem_allWords (w : Word) : w ∈ allWords :=
  List.mem_map.2 ⟨w.toNat, List.mem_range.2 w.isLt, BitVec.ofNat_toNat .. |>.trans (by simp)⟩

/-- The default numerics. -/
theorem fpCompute_ieee754 {cfg : Config} (h : cfg.numerics = .ieee754) (op : FpOp) (a b : Word) :
    fpCompute cfg op a b = ieee op a b := by
  simp [fpCompute, h]

/-- Whatever four functions are supplied, a configuration with them as its numerics computes
them. -/
theorem fpCompute_ofFunction {cfg : Config} {f : FpOp → Word → Word → Word}
    (h : cfg.numerics = FpNumerics.ofFunction f) (op : FpOp) (a b : Word) :
    fpCompute cfg op a b = f op a b := by
  unfold FpNumerics.ofFunction at h
  generalize hes : [FpOp.add, .sub, .mul, .div].flatMap _ = es at h
  have hop : op ∈ [FpOp.add, .sub, .mul, .div] := by cases op <;> decide
  have hmem : (⟨op, a, b, f op a b⟩ : FpEntry) ∈ es := by
    rw [← hes]
    exact List.mem_flatMap.2 ⟨op, hop, List.mem_flatMap.2 ⟨a, mem_allWords a,
      List.mem_map.2 ⟨b, mem_allWords b, rfl⟩⟩⟩
  obtain ⟨v, hv⟩ := Option.isSome_iff_exists.1 (givenValue_isSome hmem)
  obtain ⟨e, he, rfl⟩ := givenValue_eq_some hv
  rw [← hes] at he
  obtain ⟨op', -, he⟩ := List.mem_flatMap.1 he
  obtain ⟨a', -, he⟩ := List.mem_flatMap.1 he
  obtain ⟨b', -, he⟩ := List.mem_map.1 he
  cases he
  simp [fpCompute, h, hv]

end Sys2Proof.Machine
end

