-- ==== Sys2Proof/Laws/Paths.lean ====
section
/-! SUPPORT. The paths of a program (30_encoding.md R87 condition 5): what the reachability check
computes. -/

namespace Sys2Proof

theorem mem_addNew {x : Nat} : ∀ {new seen : List Nat}, x ∈ addNew seen new ↔ x ∈ seen ∨ x ∈ new
  | [], seen => by simp [addNew]
  | k :: new, seen => by
    rw [addNew, mem_addNew]
    by_cases h : k ∈ seen
    · by_cases hx : x = k <;> simp [h, hx]
    · simp [h, or_assoc, or_left_comm]

/-- `k` comes after `j` on a path of that many moves. -/
def Moves (next : Nat → List Nat) : Nat → Nat → Nat → Prop
  | 0, j, k => j = k
  | n + 1, j, k => ∃ i ∈ next j, Moves next n i k

/-- Reachability finds exactly the indexes that a path of at most that many moves reaches. -/
theorem mem_reachableIn {next : Nat → List Nat} {k : Nat} : ∀ {n : Nat} {seen : List Nat},
    k ∈ reachableIn next n seen ↔ ∃ j ∈ seen, ∃ m ≤ n, Moves next m j k
  | 0, seen => by simp [reachableIn, Moves]
  | n + 1, seen => by
    rw [reachableIn, mem_reachableIn]
    constructor
    · rintro ⟨j, hj, m, hm, hp⟩
      rcases mem_addNew.1 hj with h | h
      · exact ⟨j, h, m, by omega, hp⟩
      · obtain ⟨i, hi, hij⟩ := List.mem_flatMap.1 h
        exact ⟨i, hi, m + 1, by omega, j, hij, hp⟩
    · rintro ⟨j, hj, m, hm, hp⟩
      cases m with
      | zero => exact ⟨j, mem_addNew.2 (.inl hj), 0, by omega, hp⟩
      | succ m =>
        obtain ⟨i, hi, hp⟩ := hp
        exact ⟨i, mem_addNew.2 (.inr (List.mem_flatMap.2 ⟨j, hj, hi⟩)), m, by omega, hp⟩

end Sys2Proof
end

