-- ==== Sys2Proof/Laws/PerInstr.lean ====
section
/-! SUPPORT. Statements made for every instruction as syntax, one lemma for each constructor. -/

namespace Sys2Proof.Laws.EncodesWellFormed

open Sys2Proof

/-- The record of an instruction is well formed in every variant that has its opcode: its used
register fields are below 32 and every other field holds `UNDEF` (30_encoding.md R86, R87). -/
def Statement (i : Instr) : Prop :=
  ∀ b : Bool, (i.opcode.needsFp = true → b = true) → (encode i).wellFormed b = true

theorem regFieldOk_field (u : RegFile) (r : Reg) : regFieldOk (some u) (Reg.field r) = true := by
  have := r.isLt
  simp [regFieldOk, Reg.field]
  omega

theorem regFieldOk_undef : regFieldOk none undef = true := rfl

/-- Every instruction encodes to a well-formed record. -/
theorem holds (i : Instr) : Statement i := by
  intro b h
  cases i <;>
    simp only [Instr.opcode, Opcode.needsFp, Bool.false_eq_true, false_implies, true_implies] at h <;>
    (try subst h) <;>
    simp [Record.wellFormed, Record.op, encode, encodeThree, encodeDestSrc, encodeTwoSrc,
      encodeOneSrc, encodeNone, Opcode.number, decodeOpcode, integerOpcodes, fpOpcodes,
      Opcode.roles, regFieldOk_field, regFieldOk_undef]

theorem lw (rd rs : Reg) (imm : Word) : Statement (.lw rd rs imm) := holds _

theorem sw (rs rt : Reg) (imm : Word) : Statement (.sw rs rt imm) := holds _

theorem add (rd rs rt : Reg) : Statement (.add rd rs rt) := holds _

theorem addi (rd rs : Reg) (imm : Word) : Statement (.addi rd rs imm) := holds _

theorem sub (rd rs rt : Reg) : Statement (.sub rd rs rt) := holds _

theorem subi (rd rs : Reg) (imm : Word) : Statement (.subi rd rs imm) := holds _

theorem xor (rd rs rt : Reg) : Statement (.xor rd rs rt) := holds _

theorem beqz (rs : Reg) (imm : Word) : Statement (.beqz rs imm) := holds _

theorem bnez (rs : Reg) (imm : Word) : Statement (.bnez rs imm) := holds _

theorem bltz (rs : Reg) (imm : Word) : Statement (.bltz rs imm) := holds _

theorem bgtz (rs : Reg) (imm : Word) : Statement (.bgtz rs imm) := holds _

theorem blez (rs : Reg) (imm : Word) : Statement (.blez rs imm) := holds _

theorem bgez (rs : Reg) (imm : Word) : Statement (.bgez rs imm) := holds _

theorem jump (imm : Word) : Statement (.jump imm) := holds _

theorem eop : Statement (.eop) := holds _

theorem nop : Statement (.nop) := holds _

theorem lws (fd rs : Reg) (imm : Word) : Statement (.lws fd rs imm) := holds _

theorem sws (fs rt : Reg) (imm : Word) : Statement (.sws fs rt imm) := holds _

theorem adds (fd fs ft : Reg) : Statement (.adds fd fs ft) := holds _

theorem subs (fd fs ft : Reg) : Statement (.subs fd fs ft) := holds _

theorem mults (fd fs ft : Reg) : Statement (.mults fd fs ft) := holds _

theorem divs (fd fs ft : Reg) : Statement (.divs fd fs ft) := holds _

end Sys2Proof.Laws.EncodesWellFormed
end

