-- ==== Sys2Proof/Laws/Units.lean ====
section
/-! SUPPORT. The entries of the functional-unit table (10_state.md R43, 47_functional_units.md R220,
R225): what taking a record and counting down do to each field. -/

namespace Sys2Proof.Machine

variable (u : FunctionalUnit)

@[simp] theorem FunctionalUnit.tick_kind : u.tick.kind = u.kind := rfl
@[simp] theorem FunctionalUnit.tick_latency : u.tick.latency = u.latency := rfl
@[simp] theorem FunctionalUnit.tick_busy : u.tick.busy = u.busy - 1 := rfl
@[simp] theorem FunctionalUnit.tick_lastAccepted : u.tick.lastAccepted = u.lastAccepted := rfl

/-- After the end of a cycle a free unit holds `NOP_REC` and a busy one the record it runs. -/
theorem FunctionalUnit.tick_instruction :
    u.tick.instruction = if u.tick.busy = 0 then nopRec else u.instruction := by
  by_cases h : u.busy ≤ 1
  · rw [if_pos (by simp; omega)]
    simp [FunctionalUnit.tick, h]
  · rw [if_neg (by simp; omega)]
    simp [FunctionalUnit.tick, h]

/-- The end of a cycle keeps the two records of a unit in step. -/
theorem FunctionalUnit.tick_records {u : FunctionalUnit}
    (h : u.busy ≠ 0 → u.instruction = u.lastAccepted) :
    u.tick.instruction = if u.tick.busy = 0 then nopRec else u.tick.lastAccepted := by
  rw [u.tick_instruction]
  split
  · rfl
  · next hb => exact h fun h0 => hb (by simp [h0])

/-- Taking a record changes the unit at the index and no other. -/
theorem occupy_getElem? (us : List FunctionalUnit) (j i : Nat) (r : Record) :
    (occupy us j r)[i]? =
      if j = i then
        us[i]?.map fun u => { u with busy := u.latency, instruction := r, lastAccepted := r }
      else us[i]? := by
  unfold occupy
  rw [List.getElem?_modify]
  split <;> simp [*]

end Sys2Proof.Machine
end

