-- ==== Sys2Proof/Tests/Slice0.lean ====
section
/-! SUPPORT. The model's own tests: well-formedness, decoding, one stage of each instruction, one
step; and, for each statement with hypotheses, a concrete case that meets them. Expected values are
those of 95_test_vectors.md or of the examples of files 30 to 47. -/

namespace Sys2Proof.Tests

open Sys2Proof Sys2Proof.Machine

/-! ## Well-formedness (30_encoding.md R86, R87): each check refuses its ill-formed term -/

theorem test_wf_good_record : (encode (.add 3 1 2)).wellFormed false = true := by decide

theorem test_wf_unknown_opcode : ({ nopRec with opcode := 22#32 } : Record).wellFormed true = false := by
  decide

theorem test_wf_fp_opcode_without_fp : (encode (.adds 3 1 2)).wellFormed false = false := by decide

theorem test_wf_dest_out_of_range :
    ({ encode (.add 3 1 2) with dest := 32#32 } : Record).wellFormed true = false := by decide

theorem test_wf_src1_out_of_range :
    ({ encode (.add 3 1 2) with src1 := 32#32 } : Record).wellFormed true = false := by decide

theorem test_wf_src2_out_of_range :
    ({ encode (.add 3 1 2) with src2 := undef } : Record).wellFormed true = false := by decide

theorem test_wf_stray_dest :
    ({ encode (.jump 8#32) with dest := 1#32 } : Record).wellFormed true = false := by decide

theorem test_wf_stray_src1 : ({ nopRec with src1 := 0#32 } : Record).wellFormed true = false := by
  decide

theorem test_wf_stray_src2 :
    ({ encode (.addi 1 0 5#32) with src2 := 0#32 } : Record).wellFormed true = false := by decide

theorem test_wf_stray_imm :
    ({ encode (.add 3 1 2) with imm := 0#32 } : Record).wellFormed true = false := by decide

theorem test_wf_instr_without_fp : (Instr.lws 1 0 0#32).wellFormed false = false := by decide

theorem test_wf_offset_not_multiple_of_4 : (Instr.jump 6#32).wellFormed true = false := by decide

theorem test_wf_target_past_end : targetInside 4 1 (.jump 8#32) = false := by decide

theorem test_wf_target_before_start : targetInside 4 1 (.jump 0xFFFFFFF4#32) = false := by decide

theorem test_wf_target_first : targetInside 4 1 (.jump 0xFFFFFFF8#32) = true := by decide

/-- A path that falls off the end, one that a conditional branch opens, and one that never meets an
`EOP` (R87 condition 5). -/
theorem test_wf_paths_ill_formed :
    programWellFormed Config.initial [encode .nop] = false ∧
    programWellFormed Config.initial [encode (.beqz 1 4#32), encode .eop, encode .nop] = false ∧
    programWellFormed Config.initial [encode (.jump 0xFFFFFFFC#32), encode .eop] = false := by decide

/-- An `EOP` need not be the last record: what no path reaches is not on one (R145). -/
theorem test_wf_eop_not_last :
    programWellFormed Config.initial [encode .eop, encode .nop] = true ∧
    programWellFormed Config.initial
      [encode (.bnez 1 4#32), encode .eop, encode (.jump 0xFFFFFFF4#32), encode .nop] = true := by
  decide

theorem test_wf_capacity :
    fitsCapacity { Config.initial with imemCapacity := some 2 } 3 = false := by decide

theorem test_wf_empty_program : programWellFormed Config.initial [] = false := by decide

/-- Scenario S4 (42_branch_jump.md R121). -/
theorem test_wf_program :
    programWellFormed Config.initial
      [encode (.addi 1 0 1#32), encode (.bnez 1 4#32), encode (.addi 2 0 99#32),
        encode (.addi 3 0 7#32), encode .eop] = true := by decide

theorem test_wf_program_without_eop :
    programWellFormed Config.initial [encode (.addi 1 0 1#32)] = false := by decide

/-! ## Decoding: words written out from the encodings of files 40 to 44 -/

theorem test_decode_lw :
    decodeBits false 0x0000000000000002_00000000FFFFFFFF00000004#160 = .instr (.lw 2 0 4#32) := by
  decide

theorem test_decode_sw :
    decodeBits false 0x00000001FFFFFFFF_000000010000000200000008#160 = .instr (.sw 1 2 8#32) := by
  decide

theorem test_decode_add :
    decodeBits false 0x0000000200000003_0000000100000002FFFFFFFF#160 = .instr (.add 3 1 2) := by
  decide

theorem test_decode_addi :
    decodeBits false 0x0000000300000001_00000000FFFFFFFF00000005#160 = .instr (.addi 1 0 5#32) := by
  decide

theorem test_decode_sub :
    decodeBits false 0x0000000400000003_0000000100000002FFFFFFFF#160 = .instr (.sub 3 1 2) := by
  decide

theorem test_decode_subi :
    decodeBits false 0x0000000500000001_00000002FFFFFFFF00000001#160 = .instr (.subi 1 2 1#32) := by
  decide

theorem test_decode_xor :
    decodeBits false 0x0000000600000003_0000000100000002FFFFFFFF#160 = .instr (.xor 3 1 2) := by
  decide

theorem test_decode_beqz :
    decodeBits false 0x00000007FFFFFFFF_00000001FFFFFFFF00000004#160 = .instr (.beqz 1 4#32) := by
  decide

theorem test_decode_bnez :
    decodeBits false 0x00000008FFFFFFFF_00000001FFFFFFFFFFFFFFF4#160 =
      .instr (.bnez 1 0xFFFFFFF4#32) := by decide

theorem test_decode_bltz :
    decodeBits false 0x00000009FFFFFFFF_00000001FFFFFFFF00000004#160 = .instr (.bltz 1 4#32) := by
  decide

theorem test_decode_bgtz :
    decodeBits false 0x0000000AFFFFFFFF_0000001FFFFFFFFF00000004#160 = .instr (.bgtz 31 4#32) := by
  decide

theorem test_decode_blez :
    decodeBits false 0x0000000BFFFFFFFF_00000001FFFFFFFF00000004#160 = .instr (.blez 1 4#32) := by
  decide

theorem test_decode_bgez :
    decodeBits false 0x0000000CFFFFFFFF_00000001FFFFFFFF00000004#160 = .instr (.bgez 1 4#32) := by
  decide

theorem test_decode_jump :
    decodeBits false 0x0000000DFFFFFFFF_FFFFFFFFFFFFFFFF00000008#160 = .instr (.jump 8#32) := by
  decide

theorem test_decode_eop :
    decodeBits false 0x0000000EFFFFFFFF_FFFFFFFFFFFFFFFFFFFFFFFF#160 = .instr .eop := by decide

theorem test_decode_nop :
    decodeBits false 0x0000000FFFFFFFFF_FFFFFFFFFFFFFFFFFFFFFFFF#160 = .instr .nop := by decide

theorem test_decode_lws :
    decodeBits true 0x0000001000000001_00000002FFFFFFFF00000004#160 = .instr (.lws 1 2 4#32) := by
  decide

theorem test_decode_sws :
    decodeBits true 0x00000011FFFFFFFF_000000030000000400000008#160 = .instr (.sws 3 4 8#32) := by
  decide

theorem test_decode_adds :
    decodeBits true 0x0000001200000003_0000000100000002FFFFFFFF#160 = .instr (.adds 3 1 2) := by
  decide

theorem test_decode_subs :
    decodeBits true 0x0000001300000003_0000000100000002FFFFFFFF#160 = .instr (.subs 3 1 2) := by
  decide

theorem test_decode_mults :
    decodeBits true 0x0000001400000003_0000000100000002FFFFFFFF#160 = .instr (.mults 3 1 2) := by
  decide

theorem test_decode_divs :
    decodeBits true 0x0000001500000003_0000000100000002FFFFFFFF#160 = .instr (.divs 3 1 2) := by
  decide

/-- R88. -/
theorem test_decode_unknown :
    decodeBits true 0x00000063FFFFFFFF_FFFFFFFFFFFFFFFFFFFFFFFF#160 = .unknown := by decide

/-- R89. -/
theorem test_decode_fp_number_without_fp :
    decodeBits false 0x0000001200000003_0000000100000002FFFFFFFF#160 = .unknown := by decide

/-- R87 condition 2: the field that is no register is named. -/
theorem test_decode_bad_register :
    decodeBits true 0x0000000200000003_0000002000000002FFFFFFFF#160 = .badRegister .src1 32#32 := by
  decide

/-- R85's example. -/
theorem test_branch_offset : branchOffset 2 4 = 0xFFFFFFF4#32 := by decide

/-! ## One stage of each instruction -/

/-- A loaded machine with a two-record program. -/
def running (cfg : Config) : State :=
  (State.resetWith cfg initialUnits).withProgram [encode (.addi 1 0 5#32), encode .eop] 0x1000#32

/-- EX of an instruction whose operands are these. -/
def inEx (a b imm npc : Word) : State :=
  { running Config.initial with
    stage := .EX
    idex := { bubble with ir := nopRec, a := a, b := b, imm := imm, npc := npc } }

/-- MEM of an access at this address. -/
def inMem (addr b : Word) : State :=
  { running Config.initial with
    stage := .MEM, exmem := { bubble with ir := nopRec, aluOutput := addr, b := b } }

/-- WB of an instruction with these results. -/
def inWb (alu lmd : Word) : State :=
  { running Config.initial with
    stage := .WB, memwb := { bubble with ir := nopRec, aluOutput := alu, lmd := lmd } }

/-- ID with integer register 1 and floating-point register 1 set. -/
def inId : State :=
  { ((running Config.initial).writeGp 1 7#32).writeFp 1 0x3FC00000#32 with
    stage := .ID, ifid := { bubble with npc := 8#32 } }

def aluResult (o : Result) : Option Word := (nextState? o).map (·.exmem.aluOutput)

/-- Vectors A2, A3. -/
theorem test_add_wraps :
    aluResult (exec (.add 3 1 2) (inEx 0xFFFFFFFF#32 1#32 0#32 0#32)) = some 0#32 := by decide

theorem test_add_writes_dest :
    (nextState? (exec (.add 3 1 2) (inWb 12#32 0#32))).map (fun t => (t.readGp 3, t.readGp 1)) =
      some (12#32, undef) := by decide

/-- Vector A6. -/
theorem test_addi_negative_immediate :
    aluResult (exec (.addi 1 0 0xFFFFFFFF#32) (inEx 5#32 undef 0xFFFFFFFF#32 0#32)) =
      some 4#32 := by decide

theorem test_addi_reads_src1 :
    (nextState? (exec (.addi 2 1 9#32) inId)).map (fun t => (t.idex.a, t.idex.b, t.idex.imm)) =
      some (7#32, undef, 9#32) := by decide

/-- Vectors A9, A10. -/
theorem test_sub_borrows :
    aluResult (exec (.sub 3 1 2) (inEx 0#32 1#32 0#32 0#32)) = some 0xFFFFFFFF#32 := by decide

/-- Vector A12. -/
theorem test_subi_negative_immediate :
    aluResult (exec (.subi 1 2 0xFFFFFFFF#32) (inEx 0x1234#32 undef 0xFFFFFFFF#32 0#32)) =
      some 0x1235#32 := by decide

/-- R104's example. -/
theorem test_xor :
    aluResult (exec (.xor 3 1 2) (inEx 0x0F0F0F0F#32 0x00FF00FF#32 0#32 0#32)) =
      some 0x0FF00FF0#32 := by decide

/-- Vector M7. -/
theorem test_lw_address_wraps :
    aluResult (exec (.lw 1 2 8#32) (inEx 0xFFFFFFFC#32 undef 8#32 0#32)) = some 4#32 := by decide

/-- Vectors M1, M6: the unaligned word at 1 after `42 00 00 00` at 0. -/
theorem test_lw_unaligned :
    (nextState? (exec (.lw 3 0 1#32)
      { inMem 1#32 undef with dmem := Memory.writeWord [] 0 0x42#32 })).map (·.memwb.lmd) =
      some 0xFF000000#32 := by decide

/-- Vector M2. -/
theorem test_sw_little_endian :
    (nextState? (exec (.sw 2 0 8#32) (inMem 8#32 0x11223344#32))).map (fun t =>
      (t.dmem.read 8, t.dmem.read 9, t.dmem.read 10, t.dmem.read 11, t.dmem.read 12)) =
      some (0x44#8, 0x33#8, 0x22#8, 0x11#8, 0xFF#8) := by decide

/-- Vector M5: the base is the second source register, the data the first. -/
theorem test_sw_operand_order :
    (nextState? (exec (.sw 2 1 0xFFFFFFFC#32) inId)).map (fun t => (t.idex.a, t.idex.b)) =
      some (7#32, undef) := by decide

/-- Vector M8. -/
theorem test_lw_last_address : (nextState? (exec (.lw 1 0 0#32) (inMem 1020#32 undef))).isSome = true := by
  decide

/-- Vector M9. -/
theorem test_lw_out_of_range : nextState? (exec (.lw 1 0 0#32) (inMem 1021#32 undef)) = none := by
  decide

/-- Vector M10: the word goes to the floating-point file only. -/
theorem test_lws_writes_fp :
    (nextState? (exec (.lws 1 0 0#32) (inWb undef 0x3FC00000#32))).map
      (fun t => (t.readFp 1, t.readGp 1)) = some (0x3FC00000#32, undef) := by decide

/-- Vector M11: data from the floating-point file, base from the integer file. -/
theorem test_sws_operands :
    (nextState? (exec (.sws 1 1 8#32) inId)).map (fun t => (t.idex.a, t.idex.b)) =
      some (7#32, 0x3FC00000#32) := by decide

def branchResult (o : Result) : Option (Bool × Word) :=
  (nextState? o).map fun t => (t.branchPending, t.exmem.cond)

/-- The predicate table of 95_test_vectors.md section 2.3, one row for each branch. -/
theorem test_beqz : branchResult (exec (.beqz 1 4#32) (inEx 0#32 undef 4#32 8#32)) = some (true, 1#32) := by
  decide

theorem test_bnez : branchResult (exec (.bnez 1 4#32) (inEx undef undef 4#32 8#32)) = some (true, 1#32) := by
  decide

theorem test_bltz :
    branchResult (exec (.bltz 1 4#32) (inEx 0x80000000#32 undef 4#32 8#32)) = some (true, 1#32) := by
  decide

theorem test_bgtz :
    branchResult (exec (.bgtz 1 4#32) (inEx 0x80000000#32 undef 4#32 8#32)) = some (false, 0#32) := by
  decide

theorem test_blez : branchResult (exec (.blez 1 4#32) (inEx 1#32 undef 4#32 8#32)) = some (false, 0#32) := by
  decide

theorem test_bgez :
    branchResult (exec (.bgez 1 4#32) (inEx 0x7FFFFFFF#32 undef 4#32 8#32)) = some (true, 1#32) := by
  decide

/-- A branch at index 1, backward by 8: target 0. -/
theorem test_bnez_target :
    (nextState? (exec (.bnez 1 0xFFFFFFF8#32) (inEx 1#32 undef 0xFFFFFFF8#32 8#32))).map
      (·.branchTarget) = some 0#32 := by decide

/-- Vector B1. -/
theorem test_jump_target :
    (nextState? (exec (.jump 8#32) (inEx undef undef 8#32 8#32))).map
      (fun t => (t.branchPending, t.branchTarget, t.exmem.cond)) = some (true, 0x10#32, 1#32) := by
  decide

/-- Vectors F1 to F4. -/
theorem test_adds :
    aluResult (exec (.adds 3 1 2) (inEx 0x3FC00000#32 0x40200000#32 undef 0#32)) =
      some 0x40800000#32 := by decide

theorem test_subs :
    aluResult (exec (.subs 3 1 2) (inEx 0x3FC00000#32 0x40200000#32 undef 0#32)) =
      some 0xBF800000#32 := by decide

theorem test_mults :
    aluResult (exec (.mults 3 1 2) (inEx 0x3FC00000#32 0x40200000#32 undef 0#32)) =
      some 0x40700000#32 := by decide

theorem test_divs :
    aluResult (exec (.divs 3 1 2) (inEx 0x3FC00000#32 0x40200000#32 undef 0#32)) =
      some 0x3F19999A#32 := by decide

/-- Vectors F5, F7, F8, F10: infinity, overflow, a subnormal kept, a tie. -/
theorem test_ieee_corners :
    ieeeDiv 0x3F800000#32 0#32 = 0x7F800000#32 ∧
    ieeeMul 0x7F7FFFFF#32 0x40000000#32 = 0x7F800000#32 ∧
    ieeeMul 0x00800000#32 0x3F000000#32 = 0x00400000#32 ∧
    ieeeAdd 0x3F800001#32 0x33800000#32 = 0x3F800002#32 := by decide

/-- Vector E1: the halt, and the halt held back by a pending branch (R156). -/
theorem test_eop_halts : (nextState? (exec .eop (inWb undef undef))).map (·.halted) = some true := by decide

theorem test_eop_waits_for_branch :
    (nextState? (exec .eop { inWb undef undef with branchPending := true })).map (·.halted) =
      some false := by decide

/-- Vector E3: a `NOP` is counted, and its ALU value is 0. -/
theorem test_nop_counted :
    (nextState? (exec .nop (running Config.initial))).map (·.instCount) = some 1#32 := by decide

theorem test_nop_alu : aluResult (exec .nop (inEx 1#32 2#32 3#32 4#32)) = some 0#32 := by decide

/-- Vector E4. -/
theorem test_unknown_alu : aluResult (execUnknown (inEx 1#32 2#32 3#32 4#32)) = some undef := by decide

/-! ## One step -/

/-- The first cycle of vector S1: `pc` and `IFID` (95_test_vectors.md part 1). -/
theorem test_step_fetches :
    (nextState? (step (running Config.initial))).map
      (fun t => (t.pc, t.ifid.npc, t.ifid.ir, t.instCount)) =
      some (0x1004#32, 0x1004#32, encode (.addi 1 0 5#32), 1#32) := by decide

/-- A placed word is the first instruction run after reset. -/
theorem test_placed_word :
    (nextState? (step (State.reset.withFetchWord 160
      0x0000000300000001_00000000FFFFFFFF00000005))).map (fun t => (t.ifid.ir, t.instCount)) =
      some (encode (.addi 1 0 5#32), 1#32) := by decide

theorem test_table_word :
    decodeTableWord 160 0x0000001500000003_0000000100000002FFFFFFFF = some (.divs 3 1 2) := by decide

/-- Row 1 of the hazard table: the consumer directly behind its producer (R203). -/
theorem test_hazard_distance_one :
    raw true (encode (.add 2 1 1)) (encode (.addi 1 0 5#32)) nopRec nopRec = 2 := by decide

/-- `LWS F1` is no producer for a reader of the integer register 1 (R202). -/
theorem test_hazard_files_differ :
    raw true (encode (.add 2 1 1)) (encode (.lws 1 0 5#32)) nopRec nopRec = 0 := by decide

/-- Vector P5's multiply: a unit of latency 4 runs the record while it is busy, and holds `NOP_REC`
when it is free again (R43), the record last accepted being kept (R220). -/
theorem test_unit_record :
    let u := (occupy initialUnits 2 (encode (.mults 3 1 2)))[2]?
    u.map (fun u => (u.busy, u.instruction)) = some (4, encode (.mults 3 1 2)) ∧
    u.map (fun u => (u.tick.busy, u.tick.instruction)) = some (3, encode (.mults 3 1 2)) ∧
    u.map (fun u => (u.tick.tick.tick.tick.busy, u.tick.tick.tick.tick.instruction,
      u.tick.tick.tick.tick.lastAccepted)) = some (0, nopRec, encode (.mults 3 1 2)) := by decide

/-- A numerics given as an argument: its value where it has one, the default elsewhere (R8, R139). -/
theorem test_given_numerics :
    let cfg := { Config.initial with
      numerics := .given [⟨.add, 0x3FC00000#32, 0x40200000#32, 0x12345678#32⟩] }
    fpCompute cfg .add 0x3FC00000#32 0x40200000#32 = 0x12345678#32 ∧
    fpCompute cfg .sub 0x3FC00000#32 0x40200000#32 = 0xBF800000#32 := by decide

/-! ## Cases that meet the hypotheses of the statements

A theorem `witness_<statement>` gives a state and operands that meet all hypotheses of the statement
together, one conjunct for each of its clauses that has its own. -/

theorem exists_next {o : Result} (h : (nextState? o).isSome = true) : ∃ t, o = .next t := by
  cases o with
  | next s => exact ⟨s, rfl⟩
  | fault f => cases h
  | refused r => cases h

theorem exists_next_with {o : Result} {p : State → Bool} (h : ((nextState? o).map p) = some true) :
    ∃ t, o = .next t ∧ p t = true := by
  cases o with
  | next s => exact ⟨s, rfl, Option.some.inj h⟩
  | fault f => cases h
  | refused r => cases h

theorem witness_DecodeInvertsEncode :
    ((Instr.add 3 1 2).opcode.needsFp = true → false = true) ∧
    ((Instr.adds 3 1 2).opcode.needsFp = true → true = true) := by decide

theorem witness_EncodeInvertsDecode :
    (Record.ofBits 0x0000001100000003_00000000_FFFFFFFFFFFFFFFF#160).wellFormed true = false ∧
    (Record.ofBits 0x00000011FFFFFFFF_0000001F00000000FFFFFFFC#160).wellFormed true = true ∧
    (Record.ofBits 0x0000000200000000_0000001F00000001FFFFFFFF#160).wellFormed false = true := by
  decide

/-- A memory in canonical form, of which a store of bytes `0xFF` removes the entries. -/
theorem witness_WordStoreAndLoad :
    Memory.wf [(3, 7#8), (5, 1#8)] = true ∧
    (Memory.writeWord [(3, 7#8), (5, 1#8)] 3 0xFFFFFFFF#32).read 3 = 0xFF#8 := by decide

theorem witness_MemoriesThatReadAlikeAreEqual :
    Memory.wf [(0, 0x42#8), (9, 0#8)] = true ∧
    (∀ a, Memory.read [(0, 0x42#8), (9, 0#8)] a = Memory.read [(0, 0x42#8), (9, 0#8)] a) :=
  ⟨by decide, fun _ => rfl⟩

/-- A machine whose memory is slow. -/
def slow : Config := { Config.initial with dmemLatency := 2 }

/-- A store of `0x11223344` at address 8 in `EXMEM`. -/
def storing (cfg : Config) : State :=
  { running cfg with
    exmem := { bubble with ir := encode (.sw 2 0 8#32), aluOutput := 8#32, b := 0x11223344#32 } }

/-- A `MULTS`, of a class whose unit has latency 4, in `IDEX`. -/
def multiplying : State :=
  { running Config.initial with
    idex := { bubble with ir := encode (.mults 3 1 2), npc := 0x1000#32 } }

/-- A consumer in `IFID` directly behind its producer. -/
def dependent : State :=
  { running Config.initial with
    ifid := { bubble with ir := encode (.add 2 1 1), npc := 0x1004#32 }
    idex := { bubble with
      ir := encode (.addi 1 0 5#32), npc := 0x1000#32, a := 0#32, imm := 5#32 } }

/-- A jump in `IFID`. -/
def jumping : State :=
  { running Config.initial with ifid := { bubble with ir := encode (.jump 0#32), npc := 0x1000#32 } }

/-- A taken branch about to be followed: the stall has run out and the redirect is pending. -/
def redirecting : State :=
  { running Config.initial with
    pc := 0x1008#32
    stallKind := .BRANCH
    stallSize := 2
    branchPending := true
    branchTarget := 0x1004#32
    cycle := 2#32 }

/-- The `EOP` has been fetched and is in `IFID`. -/
def draining : State :=
  { running Config.initial with
    pc := 0x1008#32
    eopFetched := true
    cycle := 1#32
    fetchedCount := 1#32
    ifid := { bubble with ir := encode .eop, npc := 0x1008#32 } }

/-- An `EOP` in `MEMWB`. -/
def committing (pending : Bool) : State :=
  { running Config.initial with
    eopFetched := true
    branchPending := pending
    memwb := { bubble with ir := encode .eop } }

theorem witness_StepKeepsMemoryInv :
    MemoryInv { storing Config.initial with dmem := [(8, 1#8)] } ∧
    ∃ t, step { storing Config.initial with dmem := [(8, 1#8)] } = .next t :=
  ⟨by decide, exists_next (by decide)⟩

/-- A machine just loaded, with a seeded register and a seeded byte. -/
def fresh : State :=
  { (State.resetWith slow initialUnits).withProgram
      [encode (.lw 1 0 8#32), encode (.add 2 1 1), encode .eop] 0x1000#32 with
    gp := Vector.replicate 32 0#32, fp := Vector.replicate 32 undef, dmem := [(8, 5#8)] }

theorem witness_FreshLoadMeetsInvariants : FreshlyLoaded fresh :=
  ⟨slow, initialUnits, _, _, _, _, _, by decide, rfl⟩

/-- A state at each stage, for the statements about one stage. -/
theorem witness_stages :
    (running Config.initial).stage = .IF ∧ inId.stage = .ID ∧
    (inEx 1#32 2#32 3#32 4#32).stage = .EX ∧ (inMem 8#32 1#32).stage = .MEM ∧
    (inWb 1#32 2#32).stage = .WB ∧ inId.cfg.hasFp = true ∧
    inId.cfg.numerics = .ieee754 := by decide

/-- `FetchCountsInstruction`, `IntegerRegisterRegister`, `XorWholeRule`, `IntegerRegisterImmediate`,
`FpArithmeticStages`: operands that meet the choice of instruction, with the stages above. -/
theorem witness_instruction_choices :
    (Instr.add 3 1 2, fun a b : Word => a + b) ∈
      [(Instr.add 3 1 2, fun a b : Word => a + b), (.sub 3 1 2, fun a b => a - b),
        (.xor 3 1 2, fun a b => a ^^^ b)] ∧
    (Instr.subi 3 1 2#32, fun a b : Word => a - b) ∈
      [(Instr.addi 3 1 2#32, fun a b : Word => a + b), (.subi 3 1 2#32, fun a b => a - b)] ∧
    (Instr.divs 3 1 2, FpOp.div) ∈
      [(Instr.adds 3 1 2, FpOp.add), (.subs 3 1 2, .sub), (.mults 3 1 2, .mul),
        (.divs 3 1 2, .div)] := by
  refine ⟨?_, ?_, ?_⟩ <;> simp

theorem witness_XorWholeRule :
    (2 : Reg) = 2 ∧ (running Config.initial).gp[(2 : Reg).val] = undef ∧
    (((running Config.initial).writeGp 1 0x0F0F0F0F#32).writeGp 2 0x00FF00FF#32).gp[(1 : Reg).val] =
      0x0F0F0F0F#32 := by decide

/-- `LoadStages`, `StoreStages`: the last address in range and the first one out of it. -/
theorem witness_access_range :
    (inMem 1020#32 undef).stage = .MEM ∧
    (inMem 1020#32 undef).exmem.aluOutput.toNat + 3 < (inMem 1020#32 undef).cfg.dmemSize ∧
    (inMem 1021#32 undef).stage = .MEM ∧
    (inMem 1021#32 undef).cfg.dmemSize ≤ (inMem 1021#32 undef).exmem.aluOutput.toNat + 3 ∧
    (inMem undef undef).cfg.dmemSize ≤ (inMem undef undef).exmem.aluOutput.toNat + 3 ∧
    (inMem 1020#32 undef).dmem.wf = true := by decide

/-- `BranchStages`: EX with 0, 1 and -1 in the tested register, so that each branch is taken once and
not taken once; `JUMP` is always taken. -/
theorem witness_BranchStages :
    (inEx 0#32 undef 4#32 8#32).stage = .EX ∧
    ((inEx 0#32 undef 4#32 8#32).idex.a.toInt = 0 ∧
      ¬ (inEx 0#32 undef 4#32 8#32).idex.a.toInt ≠ 0 ∧
      ¬ (inEx 0#32 undef 4#32 8#32).idex.a.toInt < 0 ∧
      ¬ 0 < (inEx 0#32 undef 4#32 8#32).idex.a.toInt) ∧
    (¬ (inEx 1#32 undef 4#32 8#32).idex.a.toInt = 0 ∧
      0 < (inEx 1#32 undef 4#32 8#32).idex.a.toInt ∧
      ¬ (inEx 1#32 undef 4#32 8#32).idex.a.toInt ≤ 0 ∧
      0 ≤ (inEx 1#32 undef 4#32 8#32).idex.a.toInt) ∧
    ((inEx undef undef 4#32 8#32).idex.a.toInt ≠ 0 ∧
      (inEx undef undef 4#32 8#32).idex.a.toInt < 0 ∧
      (inEx undef undef 4#32 8#32).idex.a.toInt ≤ 0 ∧
      ¬ 0 ≤ (inEx undef undef 4#32 8#32).idex.a.toInt) := by decide

theorem witness_UnknownOpcodeStages :
    decodeRecord true { nopRec with opcode := 0x63#32 } = .unknown ∧
    (Instr.adds 3 1 2).opcode.needsFp = true ∧
    (running { Config.initial with hasFp := false }).cfg.hasFp = false ∧
    decodeRecord false (encode (.adds 3 1 2)) = .unknown := by decide

/-- The statements about `runAlone`: each instruction is the decoding of its record, in the variant
with `HAS_FP` (the other half is the conjunction's second line); `EopNopUnknownEffect` and the branch
and arithmetic effects have no other hypothesis. -/
theorem witness_effects :
    (∀ i ∈ [Instr.add 3 1 2, .sub 3 1 2, .xor 3 1 2, .addi 3 1 5#32, .subi 3 1 5#32, .lw 3 1 4#32,
      .lws 3 1 4#32, .sw 3 1 4#32, .sws 3 1 4#32, .beqz 1 4#32, .bnez 1 4#32, .bltz 1 4#32,
      .bgtz 1 4#32, .blez 1 4#32, .bgez 1 4#32, .jump 4#32, .adds 3 1 2, .subs 3 1 2, .mults 3 1 2,
      .divs 3 1 2, .nop, .eop],
      decodeRecord (running Config.initial).cfg.hasFp (encode i) = .instr i) ∧
    decodeRecord true { nopRec with opcode := 22#32 } = .unknown := by decide

/-- `LoadEffect`, `StoreEffect`: addresses in and out of range. -/
theorem witness_effect_addresses :
    inDataMemory Config.initial (effectiveAddress (inId.readGp 1) 1013#32) = true ∧
    inDataMemory Config.initial (effectiveAddress (inId.readGp 1) 1014#32) = false ∧
    inId.cfg = Config.initial ∧ inId.dmem.wf = true := by decide

/-- Each of the two stores with each of the two loads. -/
theorem witness_LoadAfterStoreReturnsWord :
    inId.dmem.wf = true ∧
    decodeRecord inId.cfg.hasFp (encode (.sw 1 1 1#32)) = .instr (.sw 1 1 1#32) ∧
    decodeRecord inId.cfg.hasFp (encode (.sws 1 1 1#32)) = .instr (.sws 1 1 1#32) ∧
    decodeRecord inId.cfg.hasFp (encode (.lw 3 2 9#32)) = .instr (.lw 3 2 9#32) ∧
    decodeRecord inId.cfg.hasFp (encode (.lws 3 2 9#32)) = .instr (.lws 3 2 9#32) ∧
    effectiveAddress (inId.readGp 2) 9#32 = effectiveAddress (inId.readGp 1) 1#32 ∧
    inDataMemory inId.cfg (effectiveAddress (inId.readGp 1) 1#32) = true := by decide

theorem witness_StepRunsDecodedInstruction :
    Running (running Config.initial) ∧ Drained (running Config.initial) ∧
    fetchRecord (running Config.initial) = .ok (encode (.addi 1 0 5#32)) ∧
    decodeRecord true (encode (.addi 1 0 5#32)) = .instr (.addi 1 0 5#32) ∧
    dependent.stallKind ≠ .RAW ∧
    decodeRecord true dependent.ifid.ir = .instr (.add 2 1 1) ∧
    decodeRecord true dependent.idex.ir = .instr (.addi 1 0 5#32) ∧
    decodeRecord true (storing slow).exmem.ir = .instr (.sw 2 0 8#32) ∧
    decodeRecord true (committing false).memwb.ir = .instr .eop := by
  refine ⟨by decide, by decide, rfl, by decide, by decide, by decide, by decide, by decide,
    by decide⟩

theorem witness_PlacedWordRunsFirst :
    decodeRecord State.reset.cfg.hasFp (tableRecord 160 0x0000000EFFFFFFFF_FFFFFFFFFFFFFFFFFFFFFFFF) =
      .instr .eop ∧
    decodeRecord State.reset.cfg.hasFp (tableRecord 160 0x0000000300000001_00000000FFFFFFFF00000005) =
      .instr (.addi 1 0 5#32) := by decide

theorem witness_DriverLaws :
    State.reset.loaded = false ∧ (committing false).loaded = true ∧
    ({ committing false with halted := true } : State).halted = true := by decide

theorem witness_ExHoldsDuringMemoryWait :
    Running (storing slow) ∧ memWaits (storing slow) = true ∧ ∃ t, step (storing slow) = .next t :=
  ⟨by decide, by decide, exists_next (by decide)⟩

/-- Both kinds of frozen cycle. With no stall in progress, the three things the handler can do: none
set, a RAW stall for a consumer behind the store it is no consumer of, a BRANCH stall; and a stall in
progress. -/
theorem witness_FrozenCycles :
    (Running (storing slow) ∧ memWaits (storing slow) = true ∧
      (storing slow).stallKind = .NONE ∧
      raw true (storing slow).ifid.ir (storing slow).idex.ir (storing slow).exmem.ir
        (storing slow).memwb.ir = 0 ∧
      isBranch true (storing slow).ifid.ir = false ∧ ∃ t, step (storing slow) = .next t) ∧
    (Running { storing slow with ifid := dependent.ifid, idex := dependent.idex } ∧
      raw true dependent.ifid.ir dependent.idex.ir (storing slow).exmem.ir nopRec = 2 ∧
      ∃ t, step { storing slow with ifid := dependent.ifid, idex := dependent.idex } = .next t) ∧
    (Running { storing slow with ifid := jumping.ifid } ∧
      raw true jumping.ifid.ir nopRec (storing slow).exmem.ir nopRec = 0 ∧
      isBranch true jumping.ifid.ir = true ∧
      ∃ t, step { storing slow with ifid := jumping.ifid } = .next t) ∧
    (Running { storing slow with stallKind := .RAW, stallRem := 1, stallSize := 1 } ∧
      ∃ t, step { storing slow with stallKind := .RAW, stallRem := 1, stallSize := 1 } =
        .next t) ∧
    (Running multiplying ∧ memWaits multiplying = false ∧
      exDone (acquireUnit multiplying) = false ∧ ∃ t, step multiplying = .next t) :=
  ⟨⟨by decide, by decide, by decide, by decide, by decide, exists_next (by decide)⟩,
    ⟨by decide, by decide, exists_next (by decide)⟩,
    ⟨by decide, by decide, by decide, exists_next (by decide)⟩,
    ⟨by decide, exists_next (by decide)⟩,
    ⟨by decide, by decide, by decide, exists_next (by decide)⟩⟩

theorem witness_MemoryWaitLastsLatency :
    Running (storing slow) ∧ RegistersInv (storing slow) ∧
    isMem (storing slow).cfg.hasFp (storing slow).exmem.ir = true ∧
    0 < (storing slow).cfg.dmemLatency ∧ (storing slow).memStall = false ∧
    ¬ (isEop (storing slow) (storing slow).memwb ∧ (storing slow).branchPending = false) ∧
    2 ≤ (storing slow).cfg.dmemLatency := by decide

/-- A `MULTS` with an `EOP` right behind it, as in cycles 7 to 10 of vector P5. -/
def multiplyingLast : State :=
  { multiplying with
    eopFetched := true, ifid := { bubble with ir := encode .eop, npc := 0x1008#32 } }

/-- A `MULTS` right behind a store whose access is due. -/
def multiplyingBehindStore : State :=
  { multiplying with exmem := (storing Config.initial).exmem }

/-- A machine whose first multiplier is busy, with a second, idle one, and a third. -/
def secondMultiplier : List FunctionalUnit :=
  [freshUnit .ADDER 2, { freshUnit .MULTIPLIER 4 with busy := 2 }, freshUnit .MULTIPLIER 3,
    freshUnit .MULTIPLIER 5]

/-- A `MULTS` in `IDEX` of a machine without a multiplier (R228). -/
def unitless : State := { multiplying with units := initialUnits.take 2 }

/-- `UnitLatencyHoldsEx`, the choice of the unit: the first idle one of the kind, and none. -/
theorem witness_UnitLatencyHoldsEx_choice :
    freeUnit .MULTIPLIER secondMultiplier = some 2 ∧ freeUnit .DIVIDER secondMultiplier = none ∧
    unitClass true unitless.idex.ir = some .MULTIPLIER ∧ unitless.cfg.hasFp = true ∧
    unitless.exUnit = none ∧ freeUnit .MULTIPLIER unitless.units = none := by decide

/-- The shortest and the longest time, with nothing around the instruction, with an `EOP` behind it and
with a store ahead of it. -/
theorem witness_UnitLatencyHoldsEx :
    (∀ s ∈ [multiplying, multiplyingLast, multiplyingBehindStore],
      Running s ∧ RegistersInv s ∧ EopInv s ∧ memWaits s = false ∧
      (isMem s.cfg.hasFp s.exmem.ir = true → s.exmem.aluOutput.toNat + 3 < s.cfg.dmemSize) ∧
      unitClass s.cfg.hasFp s.idex.ir = some .MULTIPLIER ∧ s.exUnit = none ∧
      freeUnit .MULTIPLIER s.units = some 2 ∧ s.units[2]? = some (freshUnit .MULTIPLIER 4)) ∧
    0 < (freshUnit .MULTIPLIER 4).latency ∧ 3 < (freshUnit .MULTIPLIER 4).latency ∧
    isMem multiplyingBehindStore.cfg.hasFp multiplyingBehindStore.exmem.ir = true := by
  refine ⟨?_, by decide, by decide, by decide⟩
  intro s hs
  simp only [List.mem_cons, List.not_mem_nil, or_false] at hs
  rcases hs with rfl | rfl | rfl <;>
    exact ⟨by decide, by decide, by decide, by decide, by decide, by decide, by decide, by decide,
      rfl⟩

/-- A state in the middle of a RAW stall. -/
def stalled (left : Nat) (s : State) : State :=
  { s with stallKind := .RAW, stallRem := left, stallSize := 2 }

/-- The three values of the stall state, with and without an `EOP` fetched; a stall with cycles to go,
one that is released, and one released with a branch waiting. -/
theorem witness_StallStateGovernsDecodeAndFetch :
    (Running (running Config.initial) ∧ Unfrozen (running Config.initial) ∧
      (hazardHandler (running Config.initial) false (running Config.initial)).stallKind = .NONE ∧
      (running Config.initial).eopFetched = false ∧
      ∃ t, step (running Config.initial) = .next t) ∧
    (Running draining ∧ Unfrozen draining ∧
      (hazardHandler draining false draining).stallKind = .NONE ∧ draining.eopFetched = true ∧
      ∃ t, step draining = .next t) ∧
    (Running dependent ∧ Unfrozen dependent ∧
      (hazardHandler dependent false dependent).stallKind = .RAW ∧
      ∃ t, step dependent = .next t) ∧
    (Running jumping ∧ Unfrozen jumping ∧
      (hazardHandler jumping false jumping).stallKind = .BRANCH ∧ ∃ t, step jumping = .next t) ∧
    (Unfrozen (stalled 1 dependent) ∧ (stalled 1 dependent).stallKind ≠ .NONE ∧
      (stalled 1 dependent).stallRem ≠ 0 ∧ ∃ t, step (stalled 1 dependent) = .next t) ∧
    (Unfrozen (stalled 0 dependent) ∧ (stalled 0 dependent).stallKind ≠ .NONE ∧
      (stalled 0 dependent).stallRem = 0 ∧ isBranch true (stalled 0 dependent).ifid.ir = false ∧
      ∃ t, step (stalled 0 dependent) = .next t) ∧
    (Unfrozen (stalled 0 jumping) ∧ (stalled 0 jumping).stallKind ≠ .NONE ∧
      (stalled 0 jumping).stallRem = 0 ∧ isBranch true (stalled 0 jumping).ifid.ir = true ∧
      ∃ t, step (stalled 0 jumping) = .next t) := by
  refine ⟨⟨by decide, by decide, by decide, by decide, exists_next (by decide)⟩,
    ⟨by decide, by decide, by decide, by decide, exists_next (by decide)⟩,
    ⟨by decide, by decide, by decide, exists_next (by decide)⟩,
    ⟨by decide, by decide, by decide, exists_next (by decide)⟩,
    ⟨by decide, by decide, by decide, exists_next (by decide)⟩,
    ⟨by decide, by decide, by decide, by decide, exists_next (by decide)⟩,
    ⟨by decide, by decide, by decide, by decide, exists_next (by decide)⟩⟩

/-- A fetch at a pending redirect, and one with none. -/
theorem witness_FetchFollowsRedirect :
    (Running redirecting ∧ Unfrozen redirecting ∧ redirecting.branchPending = true ∧
      (hazardHandler redirecting false redirecting).stallKind = .NONE ∧
      redirecting.eopFetched = false ∧ ∃ t, step redirecting = .next t) ∧
    (Running (running Config.initial) ∧ Unfrozen (running Config.initial) ∧
      (running Config.initial).branchPending = false ∧
      (hazardHandler (running Config.initial) false (running Config.initial)).stallKind = .NONE ∧
      (running Config.initial).eopFetched = false ∧
      ∃ t, step (running Config.initial) = .next t) :=
  ⟨⟨by decide, by decide, by decide, by decide, by decide, exists_next (by decide)⟩,
    ⟨by decide, by decide, by decide, by decide, by decide, exists_next (by decide)⟩⟩

/-- The redirect goes to the target, not to the present `pc` (R168): the target's record, and `pc`
after it. -/
theorem test_redirect_target :
    (nextState? (step redirecting)).map (fun t => (t.ifid.ir, t.pc, t.ifid.npc)) =
      some (encode .eop, 0x1008#32, 0x1008#32) := by decide

/-- `CountersPerCycle`: a cycle that fetches, one that releases a stall, a frozen one, one after the
`EOP`. -/
theorem witness_CountersPerCycle :
    (Running (running Config.initial) ∧ ∃ t, step (running Config.initial) = .next t) ∧
    (Running redirecting ∧ Unfrozen redirecting ∧ redirecting.stallKind ≠ .NONE ∧
      redirecting.stallRem = 0 ∧ ∃ t, step redirecting = .next t) ∧
    (Running (storing slow) ∧ ¬ Unfrozen (storing slow) ∧ ∃ t, step (storing slow) = .next t) ∧
    (Running draining ∧ ∃ t, step draining = .next t) :=
  ⟨⟨by decide, exists_next (by decide)⟩,
    ⟨by decide, by decide, by decide, by decide, exists_next (by decide)⟩,
    ⟨by decide, by decide, exists_next (by decide)⟩, ⟨by decide, exists_next (by decide)⟩⟩

theorem witness_InstructionMemoryNeverStoredTo :
    (∃ t, step (storing Config.initial) = .next t) ∧
    (∃ t, runCycles 3 (running Config.initial) = .next t) ∧
    (∃ t, setFpRegister 31 1#32 (running Config.initial) = .next t) ∧
    (∃ t, writeMemory 1020#32 1#32 (running Config.initial) = .next t) ∧
    (∃ t, initExecUnit .ADDER 3 2 State.reset = .next t) :=
  ⟨exists_next (by decide), exists_next (by decide), exists_next (by decide),
    exists_next (by decide), exists_next (by decide)⟩

/-- WB of this instruction. -/
def retiring (i : Instr) : State :=
  { running Config.initial with memwb := { bubble with ir := encode i, aluOutput := 3#32 } }

theorem witness_OnlyWritebackWritesRegisters :
    (Running (retiring (.add 3 1 2)) ∧ ∃ t, step (retiring (.add 3 1 2)) = .next t) ∧
    (∀ i ∈ [Instr.add 3 1 2, .addi 3 1 5#32, .sub 3 1 2, .subi 3 1 5#32, .xor 3 1 2, .lw 3 1 5#32,
      .lws 3 1 5#32, .adds 3 1 2, .subs 3 1 2, .mults 3 1 2, .divs 3 1 2, .sw 3 1 5#32,
      .sws 3 1 5#32, .beqz 3 4#32, .bnez 3 4#32, .bltz 3 4#32, .bgtz 3 4#32, .blez 3 4#32,
      .bgez 3 4#32, .jump 4#32, .nop, .eop],
      decodeRecord (retiring i).cfg.hasFp (retiring i).memwb.ir = .instr i) ∧
    decodeRecord true { nopRec with opcode := 30#32 } = .unknown :=
  ⟨⟨by decide, exists_next (by decide)⟩, by decide, by decide⟩

theorem witness_HaltExactlyAtCommittedEop :
    (Running (committing false) ∧
      ∃ t, step (committing false) = .next t ∧ t.halted = true) ∧
    (Running (committing true) ∧ ∃ t, step (committing true) = .next t ∧ (!t.halted) = true) :=
  ⟨⟨by decide, exists_next_with (p := fun t => t.halted) (by decide)⟩,
    ⟨by decide, exists_next_with (p := fun t => !t.halted) (by decide)⟩⟩

theorem witness_DataMemoryChangesOnlyByStores :
    (Running (storing Config.initial) ∧ memWaits (storing Config.initial) = false ∧
      isStore ((storing Config.initial).exmem.ir.op true) = true ∧
      MemoryInv (storing Config.initial) ∧
      ∃ t, step (storing Config.initial) = .next t) ∧
    (Running (storing slow) ∧ ¬ memWaits (storing slow) = false ∧
      ∃ t, step (storing slow) = .next t) :=
  ⟨⟨by decide, by decide, by decide, by decide, exists_next (by decide)⟩,
    ⟨by decide, by decide, exists_next (by decide)⟩⟩

theorem witness_WithoutFpNoUnits :
    ({ running { Config.initial with hasFp := false } with units := [] } : State).cfg.hasFp = false ∧
    ({ running { Config.initial with hasFp := false } with units := [] } : State).exUnit = none ∧
    ∃ t, runCycles 4 { running { Config.initial with hasFp := false } with units := [] } = .next t :=
  ⟨by decide, by decide, exists_next (by decide)⟩

/-- One case for each latch that can be the nearest producer. -/
theorem witness_NearestProducerDecides :
    (rowOneProducer true (encode (.addi 1 0 5#32)) = true ∧
      matchesSrc true (encode (.addi 1 0 5#32)) (encode (.add 2 1 1)) = true) ∧
    (¬ (rowOneProducer true nopRec = true ∧ matchesSrc true nopRec (encode (.add 2 1 1)) = true) ∧
      rowThreeProducer true (encode (.addi 1 0 5#32)) = true ∧
      matchesSrc true (encode (.addi 1 0 5#32)) (encode (.add 2 1 1)) = true) ∧
    (¬ (rowThreeProducer true nopRec = true ∧
        matchesSrc true nopRec (encode (.add 2 1 1)) = true) ∧
      rowFourProducer true (encode (.addi 1 0 5#32)) = true) := by decide

theorem witness_DecodeReadsOnlySources :
    dependent.cfg = (dependent.writeGp 2 9#32).cfg ∧
    dependent.ifid = (dependent.writeGp 2 9#32).ifid ∧
    (∀ x ∈ srcs dependent.cfg.hasFp dependent.ifid.ir,
      registerValue dependent x = registerValue (dependent.writeGp 2 9#32) x) ∧
    (∃ t, execRecord .ID dependent.ifid.ir dependent = .next t) ∧
    (∃ t, execRecord .ID (dependent.writeGp 2 9#32).ifid.ir (dependent.writeGp 2 9#32) = .next t) :=
  ⟨rfl, rfl, by decide, exists_next (by decide), exists_next (by decide)⟩

theorem witness_HazardTableCoversEveryWrite :
    (∃ t, wbStage (retiring (.add 3 1 2)) = .next t ∧
      (registerValue t (.INT, 3#32) != registerValue (retiring (.add 3 1 2)) (.INT, 3#32)) = true) ∧
    (∃ t, wbStage (retiring (.adds 3 1 2)) = .next t ∧
      (registerValue t (.FP, 3#32) != registerValue (retiring (.adds 3 1 2)) (.FP, 3#32)) = true) :=
  ⟨exists_next_with (p := fun t =>
      registerValue t (.INT, 3#32) != registerValue (retiring (.add 3 1 2)) (.INT, 3#32)) (by decide),
    exists_next_with (p := fun t =>
      registerValue t (.FP, 3#32) != registerValue (retiring (.adds 3 1 2)) (.FP, 3#32))
      (by decide)⟩

theorem witness_StepKeepsLatchInv : LatchInv dependent ∧ ∃ t, step dependent = .next t :=
  ⟨by decide, exists_next (by decide)⟩

theorem pipelineInv_of_parts {s : State} (h1 : StallInv s) (h2 : BranchInv s) (h3 : MemWaitInv s)
    (h4 : UnitInv s) (h5 : EopInv s) (h6 : AccountInv s) : PipelineInv s :=
  ⟨h1, h2, h3, h4, h5, h6⟩

/-- In the middle of a stall, at a redirect, and in the drain. -/
theorem witness_StepKeepsPipelineInv :
    (PipelineInv redirecting ∧ ∃ t, step redirecting = .next t) ∧
    (PipelineInv draining ∧ ∃ t, step draining = .next t) :=
  ⟨⟨pipelineInv_of_parts (by decide) (by decide) (by decide) (by decide) (by decide) (by decide),
      exists_next (by decide)⟩,
    ⟨pipelineInv_of_parts (by decide) (by decide) (by decide) (by decide) (by decide) (by decide),
      exists_next (by decide)⟩⟩

theorem witness_LoadedMachineIsNeverRefused :
    dependent.loaded = true ∧ RegistersInv dependent ∧ ∃ t, step dependent = .next t :=
  ⟨by decide, by decide, exists_next (by decide)⟩

/-- The fault of an access, and the two of a fetch. -/
def outside : State :=
  { running Config.initial with
    exmem := { bubble with ir := encode (.lw 1 0 0#32), aluOutput := 1021#32 } }

/-- A misaligned `pc`, the first `pc` past the end, the last one inside, and a redirect to a target
past the end. -/
theorem witness_FaultsExactlyOutsideTheRules :
    (Running outside ∧ RegistersInv outside ∧
      isMem outside.cfg.hasFp outside.exmem.ir = true ∧ memWaits outside = false ∧
      outside.cfg.dmemSize ≤ outside.exmem.aluOutput.toNat + 3) ∧
    (∀ pc : Word, pc = 0x1002#32 ∨ pc = 0x1004#32 ∨ pc = 0x1008#32 →
      Running { running Config.initial with pc := pc } ∧
      RegistersInv { running Config.initial with pc := pc } ∧
      Unfrozen { running Config.initial with pc := pc }) ∧
    step { running Config.initial with pc := 0x1002#32 } = .fault (.fetchMisaligned 0x1002#32) ∧
    (∃ t, step { running Config.initial with pc := 0x1004#32 } = .next t) ∧
    step { running Config.initial with pc := 0x1008#32 } =
      .fault (.fetchOutsideProgram 0x1008#32) ∧
    (Running { redirecting with branchTarget := 0x1008#32 } ∧
      RegistersInv { redirecting with branchTarget := 0x1008#32 } ∧
      Unfrozen { redirecting with branchTarget := 0x1008#32 } ∧
      step { redirecting with branchTarget := 0x1008#32 } =
        .fault (.fetchOutsideProgram 0x1008#32)) := by
  refine ⟨by decide, ?_, rfl, exists_next (by decide), rfl, by decide, by decide, by decide, rfl⟩
  rintro pc (rfl | rfl | rfl) <;> exact ⟨by decide, by decide, by decide⟩

/-- A run that halts: `LW`, a dependent `ADD`, `EOP`, with slow memory. -/
theorem witness_HaltedRunAccountsForEveryCycle :
    FreshlyLoaded fresh ∧ ∃ t, runCycles 11 fresh = .next t ∧ t.halted = true :=
  ⟨witness_FreshLoadMeetsInvariants, exists_next_with (p := fun t => t.halted) (by decide)⟩

theorem witness_PipelinePreservesSequentialReading :
    FreshlyLoaded fresh ∧ ∃ t, RunsToHalt fresh t :=
  ⟨witness_FreshLoadMeetsInvariants,
    witness_HaltedRunAccountsForEveryCycle.2.imp fun _ h => ⟨11, h⟩⟩

theorem witness_HostWriteMemory :
    (1020#32 : Word).toNat + 3 < Config.initial.dmemSize ∧
    Config.initial.dmemSize ≤ (1021#32 : Word).toNat + 3 ∧ State.reset.dmem.wf = true := by decide

/-- A machine with room for five units, of which four are there, and for two records. -/
def bounded : State :=
  { State.reset with cfg := { Config.initial with maxUnits := some 5, imemCapacity := some 2 } }

/-- With no capacity, with a number equal to it and with one greater. -/
theorem witness_HostConfiguresAndLoads :
    State.reset.cfg.hasFp = true ∧ State.reset.loaded = false ∧
    (∀ m ∈ State.reset.cfg.maxUnits, State.reset.units.length + 2 ≤ m) ∧
    (∀ m ∈ State.reset.cfg.imemCapacity, 2 ≤ m) ∧
    bounded.cfg.hasFp = true ∧ bounded.loaded = false ∧
    (∀ m ∈ bounded.cfg.maxUnits, bounded.units.length + 1 ≤ m) ∧
    (∃ m ∈ bounded.cfg.maxUnits, m < bounded.units.length + 2) ∧
    (∀ m ∈ bounded.cfg.imemCapacity, [encode (.add 3 1 2), encode .eop].length ≤ m) ∧
    (∃ m ∈ bounded.cfg.imemCapacity, m < [encode .nop, encode .nop, encode .eop].length) ∧
    (running Config.initial).loaded = true ∧
    decodeRecord true { encode (.add 3 1 2) with dest := 32#32 } = .badRegister .dest 32#32 :=
  ⟨by decide, by decide, by simp [State.reset, Config.initial, State.resetWith],
    by simp [State.reset, Config.initial, State.resetWith], by decide, by decide,
    fun _ h => by cases h; decide, ⟨5, rfl, by decide⟩, fun _ h => by cases h; decide,
    ⟨2, rfl, by decide⟩, by decide, by decide⟩

/-- A table and a program exactly as large as their capacity are taken, the next larger refused (R220,
R273). -/
theorem test_capacities :
    (nextState? (initExecUnit .ADDER 3 1 bounded)).isSome = true ∧
    initExecUnit .ADDER 3 2 bounded = .refused .tooManyUnits ∧
    (nextState? (loadProgram [encode (.add 3 1 2), encode .eop] 0#32 bounded)).isSome = true ∧
    loadProgram [encode .nop, encode .nop, encode .eop] 0#32 bounded = .refused .programTooLong :=
  ⟨by decide, rfl, by decide, rfl⟩

theorem witness_HostConfiguresAndLoads_records :
    ∀ r ∈ [encode (.add 3 1 2), encode .eop], ∀ f v, decodeRecord true r ≠ .badRegister f v := by
  intro r hr
  simp only [List.mem_cons, List.not_mem_nil, or_false] at hr
  rcases hr with rfl | rfl <;> intro f v h <;> cases h

theorem witness_RegisterAccessors :
    (31 : Nat) < 32 ∧ 32 ≤ (32 : Nat) ∧ State.reset.cfg.hasFp = true ∧
    (construct { Config.initial with hasFp := false }).cfg.hasFp = false := by decide

theorem witness_ObservationPort :
    (FieldName.PC ≠ .IR) ∧
    (FieldName.PC, Stage.ID) ∉ [(FieldName.PC, Stage.IF), (.NPC, .ID), (.IR, .ID), (.NPC, .EX),
      (.IR, .EX), (.A, .EX), (.B, .EX), (.IMM, .EX), (.IR, .MEM), (.B, .MEM), (.COND, .MEM),
      (.ALU_OUTPUT, .MEM), (.IR, .WB), (.ALU_OUTPUT, .WB), (.LMD, .WB)] ∧
    redirecting.cycle ≠ 0#32 := by decide

/-- Finite operands of each clause: a quotient, a division by zero, an exact zero sum and
difference. -/
theorem witness_RoundingIsToNearestEven :
    (0 < 1 ∧ roundMagnitude 0 1 = 0 ∧ roundMagnitude (2 ^ 25 + 2) 1 ≠ infinityBits ∧
      roundMagnitude ((2 ^ 25 - 1) * 2 ^ 252) 1 = infinityBits ∧
      roundMagnitude ((2 ^ 25 - 1) * 2 ^ 252 - 1) 1 = infinityBits - 1) ∧
    (exponentField 0x3FC00000#32 ≠ 255 ∧ exponentField 0x80000000#32 ≠ 255 ∧
      exponentField 0x7F7FFFFF#32 ≠ 255 ∧ exponentField 0x00000001#32 ≠ 255) ∧
    (magnitude 0x00000003#32 ≠ 0 ∧ magnitude 0x80000000#32 = 0) ∧
    exactValue 0x00000001#32 + exactValue 0x80000001#32 = 0 ∧
    exactValue 0x80000000#32 - exactValue 0x00000000#32 = 0 :=
  ⟨by decide, by decide, by decide, by decide, by decide⟩

/-- A stray `dest` of a `BEQZ` in `EXMEM` and of a `BLTZ` in `MEMWB` (R212), and two well-formed records
of which the producer writes no register. -/
theorem witness_HazardTableByOpcode :
    raw true (encode (.add 2 1 1)) nopRec { encode (.beqz 1 4#32) with dest := 1#32 } nopRec = 1 ∧
    raw true (encode (.add 2 1 1)) nopRec nopRec { encode (.bltz 1 4#32) with dest := 1#32 } = 0 ∧
    raw true (encode (.add 2 1 1)) nopRec nopRec { encode (.bgtz 1 4#32) with dest := 1#32 } = 1 ∧
    (encode (.beqz 1 4#32)).wellFormed true = true ∧ (encode (.add 2 1 1)).wellFormed true = true ∧
    rowOneProducer true (encode (.beqz 1 4#32)) = false := by decide

end Sys2Proof.Tests
end

section
/-! SUPPORT. The word accesses to data memory: what each byte reads as after a word store, and a word as
the little-endian sum of its bytes (20_memory.md R61, R62, R63). -/

namespace Sys2Proof.Machine

/-! ## A word and its bytes -/

/-- A byte appended at the low end shifts what stood before it by one byte. -/
theorem toNat_append_byte {n : Nat} (x : BitVec n) (b : Byte) :
    (x ++ b).toNat = 2 ^ 8 * x.toNat + b.toNat := by
  rw [BitVec.toNat_append, ← Nat.shiftLeft_add_eq_or_of_lt b.isLt, Nat.shiftLeft_eq, Nat.mul_comm]

/-- The value of a little-endian word is the sum of its bytes, each at its weight. -/
theorem wordOfBytes_toNat (b0 b1 b2 b3 : Byte) :
    (wordOfBytes b0 b1 b2 b3).toNat =
      b0.toNat + 2 ^ 8 * b1.toNat + 2 ^ 16 * b2.toNat + 2 ^ 24 * b3.toNat := by
  simp only [wordOfBytes, toNat_append_byte]
  omega

/-- Byte `k` of a word is its digit of weight `2 ^ (8 * k)`. -/
theorem wordByte_toNat (v : Word) (k : Nat) :
    (wordByte v k).toNat = v.toNat / 2 ^ (8 * k) % 2 ^ 8 := by
  rw [wordByte, BitVec.extractLsb'_toNat, Nat.shiftRight_eq_div_pow]

/-- A word is put together again from its four bytes. -/
@[simp] theorem wordOfBytes_wordByte (v : Word) :
    wordOfBytes (wordByte v 0) (wordByte v 1) (wordByte v 2) (wordByte v 3) = v := by
  apply BitVec.eq_of_toNat_eq
  have hv := v.isLt
  simp only [wordOfBytes_toNat, wordByte_toNat]
  omega

/-! ## Bytes after a store -/

/-- A write changes no byte at another address, in any list of entries, canonical or not. -/
theorem Memory.read_write_of_ne {a c : Nat} (hc : c ≠ a) (m : Memory) (b : Byte) :
    (m.write a b).read c = m.read c := by
  induction m with
  | nil =>
    by_cases hb : b = Memory.fill <;> simp [Memory.write, hb, Memory.read_cons, Ne.symm hc]
  | cons d m ih =>
    obtain ⟨k, d⟩ := d
    unfold Memory.write
    split_ifs with h1 h2 h3 h4
    · rfl
    · rw [Memory.read_cons, if_neg (Ne.symm hc)]
    · rw [Memory.read_cons, if_neg (h3 ▸ Ne.symm hc)]
    · rw [Memory.read_cons, Memory.read_cons, if_neg (Ne.symm hc), if_neg (h3 ▸ Ne.symm hc)]
    · rw [Memory.read_cons, Memory.read_cons, ih]

/-- A word store changes no byte outside its four, in any list of entries, canonical or not. -/
theorem Memory.read_writeWord_outside {a x : Nat} (hx : x < a ∨ a + 4 ≤ x) (m : Memory) (v : Word) :
    (m.writeWord a v).read x = m.read x := by
  rw [Memory.writeWord, Memory.read_write_of_ne, Memory.read_write_of_ne, Memory.read_write_of_ne,
    Memory.read_write_of_ne] <;> omega

/-- After a word store the four bytes from its address are the bytes of the word, byte 0 first. -/
theorem Memory.read_writeWord {m : Memory} (h : m.wf = true) (a : Nat) (v : Word) {k : Nat}
    (hk : k < 4) : (m.writeWord a v).read (a + k) = wordByte v k := by
  have wf0 := Memory.write_wf h a (wordByte v 0)
  have wf1 := Memory.write_wf wf0 (a + 1) (wordByte v 1)
  have wf2 := Memory.write_wf wf1 (a + 2) (wordByte v 2)
  rw [Memory.writeWord, Memory.read_write wf2, Memory.read_write wf1, Memory.read_write wf0,
    Memory.read_write h]
  match k, hk with
  | 0, _ | 1, _ | 2, _ | 3, _ => simp

/-! ## The word access -/

/-- The value of a word read is the little-endian sum of the four bytes from its address. -/
theorem Memory.readWord_toNat (m : Memory) (a : Nat) :
    (m.readWord a).toNat =
      (m.read a).toNat + 2 ^ 8 * (m.read (a + 1)).toNat + 2 ^ 16 * (m.read (a + 2)).toNat +
        2 ^ 24 * (m.read (a + 3)).toNat :=
  wordOfBytes_toNat ..

/-- The word stored into a canonical memory is the word read from the same address. -/
theorem Memory.readWord_writeWord {m : Memory} (h : m.wf = true) (a : Nat) (v : Word) :
    (m.writeWord a v).readWord a = v := by
  have byte {k : Nat} (hk : k < 4) := Memory.read_writeWord h a v hk
  calc (m.writeWord a v).readWord a
      = wordOfBytes (wordByte v 0) (wordByte v 1) (wordByte v 2) (wordByte v 3) := by
        rw [Memory.readWord, byte (k := 1) (by decide), byte (k := 2) (by decide),
          byte (k := 3) (by decide), ← byte (k := 0) (by decide), Nat.add_zero]
    _ = v := wordOfBytes_wordByte v

/-- Settles O6: each stored byte by `read_writeWord`, the frame by `read_writeWord_outside`, the word
read by `readWord_toNat` and the round trip by `readWord_writeWord`. -/
theorem wordStoreAndLoad : Obligations.WordStoreAndLoad := by
  intro m a v h
  have byte {k : Nat} (hk : k < 4) := Memory.read_writeWord h a v hk
  exact ⟨byte (k := 0) (by decide), byte (k := 1) (by decide), byte (k := 2) (by decide),
    byte (k := 3) (by decide), fun _ hx => Memory.read_writeWord_outside hx m v,
    Memory.readWord_toNat m a, Memory.readWord_writeWord h a v⟩

end Sys2Proof.Machine
end

section
/-! SUPPORT. The loader's branch offset as a value of the ring of words, in which the shift is a
multiplication by four (30_encoding.md R85). -/

namespace Sys2Proof

/-- The shift of the loader's rule multiplies by four, and drops what a word cannot hold. -/
theorem branchOffset_eq_mul (target current : Nat) :
    branchOffset target current =
      (BitVec.ofNat 32 target - BitVec.ofNat 32 current - 1#32) * 4#32 := by
  rw [branchOffset, BitVec.shiftLeft_eq_mul_twoPow]
  rfl

/-- Taking a word of an integer is the ring homomorphism from the integers, so the offset is the word
of the difference computed without a modulus. -/
theorem branchOffset_eq_ofInt (target current : Nat) :
    branchOffset target current =
      BitVec.ofInt 32 (((target : Int) - (current : Int) - 1) * 4) := by
  calc branchOffset target current
      = ((target : Word) - (current : Word) - 1) * 4 := branchOffset_eq_mul target current
    _ = ((((target : Int) - (current : Int) - 1) * 4 : Int) : Word) := by push_cast; rfl

/-- The offset leads from the `npc` of the instruction at index `current` (R168) to the byte address
of the instruction at index `target`. -/
theorem npc_add_branchOffset (base : Word) (target current : Nat) :
    base + 4#32 * BitVec.ofNat 32 (current + 1) + branchOffset target current =
      base + 4#32 * BitVec.ofNat 32 target := by
  rw [branchOffset_eq_mul, BitVec.ofNat_add]
  ring

/-- Settles O5: the formula by `branchOffset_eq_ofInt`, the target reached by `npc_add_branchOffset`,
and R85's example by evaluation. -/
theorem branchOffsetReachesTarget : Obligations.BranchOffsetReachesTarget :=
  fun base target current =>
    ⟨branchOffset_eq_ofInt target current, npc_add_branchOffset base target current, by decide⟩

end Sys2Proof
end

section
/-! SUPPORT. The encoding of `XOR`, what the hazard unit and the unit tracker read in it, its stages and
its net effect (40_integer_alu.md R104); and, for every instruction that copies an ALU result through
MEM and redirects nothing, what running it alone leaves (45_pipeline_stages.md R158, R162). -/

namespace Sys2Proof

/-! ## Decoding the encoding -/

@[simp] theorem Reg.field_toNat (r : Reg) : (Reg.field r).toNat = r.val := by
  have := r.isLt
  simp only [Reg.field, BitVec.toNat_ofNat]
  omega

/-- A register's own field is read back as the register. -/
@[simp] theorem decodeReg_field (f : RegField) (r : Reg) (k : Reg → Decoded) :
    decodeReg f (Reg.field r) k = k r := by
  simp [decodeReg]

theorem decodeThree_encodeThree (op : Opcode) (k : Reg → Reg → Reg → Instr) (d s t : Reg) :
    decodeThree (encodeThree op d s t) k = .instr (k d s t) := by
  simp [decodeThree, encodeThree]

theorem op_encode_xor (b : Bool) (rd rs rt : Reg) :
    (encode (.xor rd rs rt)).op b = some .XOR := by
  cases b <;> rfl

theorem decode_encode_xor (b : Bool) (rd rs rt : Reg) :
    decodeRecord b (encode (.xor rd rs rt)) = .instr (.xor rd rs rt) := by
  rw [decodeRecord, op_encode_xor]
  exact decodeThree_encodeThree .XOR .xor rd rs rt

end Sys2Proof

namespace Sys2Proof.Machine

/-! ## An instruction run alone -/

/-- What the operands of ID depend on: the register files and `IFID` (R166). -/
theorem idexOf_congr {s t : State} (hgp : s.gp = t.gp) (hfp : s.fp = t.fp) (hl : s.ifid = t.ifid)
    (i : Instr) : idexOf s i = idexOf t i := by
  have ha : operandA s i = operandA t i := by
    cases i <;> simp [operandA, State.readGp, State.readFp, hgp, hfp]
  have hb : operandB s i = operandB t i := by
    cases i <;> simp [operandB, State.readGp, State.readFp, hgp, hfp]
  rw [idexOf, idexOf, ha, hb, hl]

/-- `EXMEM.alu_output` is the ALU's answer, for `NOP` too (R162). -/
@[simp] theorem exmemOf_aluOutput (cfg : Config) (x : Latch) (o : Opcode) :
    (exmemOf cfg x o).aluOutput = aluOf cfg x o := by
  unfold exmemOf
  split
  · next h => rw [h]; rfl
  · rfl

/-- An opcode that is no branch and no jump leaves no redirect (R163). -/
theorem resolved_of_takenOf_none {s : State} {o : Opcode} (h : takenOf s.idex.a o = none) :
    resolved s o = s := by
  simp [resolved, h]

/-- A stage runs the instruction a record decodes to. -/
theorem execRecord_of_decode {r : Record} {i : Instr} {s : State}
    (h : decodeRecord s.cfg.hasFp r = .instr i) (g : Stage) :
    execRecord g r s = exec i (s.atStage g) := by
  simp [execRecord, h]

/-- IF of an instruction counts it, and keeps what ID reads (R169). -/
theorem execRecord_IF_of_decode {r : Record} {i : Instr} {s : State}
    (h : decodeRecord s.cfg.hasFp r = .instr i) :
    ∃ t, execRecord .IF r s = .next t ∧ t.cfg = s.cfg ∧ t.gp = s.gp ∧ t.fp = s.fp ∧
      t.ifid = s.ifid := by
  refine ⟨_, (execRecord_of_decode h .IF).trans (exec_IF rfl i), ?_⟩
  split <;> exact ⟨rfl, rfl, rfl, rfl⟩

/-- An instruction that redirects nothing and whose MEM copies the ALU value through reaches WB with the
register files untouched, and with the ALU's answer to its operands in `MEMWB`. -/
theorem runAlone_of_passAlu {r : Record} {i : Instr} {s : State}
    (hd : decodeRecord s.cfg.hasFp r = .instr i)
    (hb : ∀ a, takenOf a i.opcode = none)
    (hm : ∀ u : State, memAccess u i.opcode = .next u.passAlu) :
    ∃ u : State, runAlone r s = .next (wbEffect u i) ∧ u.gp = s.gp ∧ u.fp = s.fp ∧
      u.memwb.aluOutput = aluOf s.cfg (idexOf (latchFetch r s) i) i.opcode := by
  obtain ⟨s1, hIF, hcfg, hgp, hfp, hl⟩ := execRecord_IF_of_decode (s := latchFetch r s) hd
  replace hcfg : s1.cfg = s.cfg := hcfg
  have hidex : idexOf (s1.atStage .ID) i = idexOf (latchFetch r s) i := idexOf_congr hgp hfp hl i
  have hfpOk (g : Stage) {u : State} (hu : u.cfg = s.cfg) : fpOk (u.atStage g) i :=
    fpOk_of_decode (hu ▸ hd) g
  have hstage (g : Stage) {u : State} (hu : u.cfg = s.cfg) :
      execRecord g r u = exec i (u.atStage g) := execRecord_of_decode (hu ▸ hd) g
  have hID := (hstage .ID hcfg).trans (exec_ID rfl (hfpOk .ID hcfg))
  generalize hs2 : (s1.atStage .ID).setIdex (idexOf (s1.atStage .ID) i) = s2 at hID
  have hcfg2 : s2.cfg = s.cfg := hs2 ▸ hcfg
  have hEX := (hstage .EX hcfg2).trans (exec_EX rfl (hfpOk .EX hcfg2))
  rw [resolved_of_takenOf_none (hb _)] at hEX
  generalize hs3 : (s2.atStage .EX).setExmem _ = s3 at hEX
  have hcfg3 : s3.cfg = s.cfg := hs3 ▸ hcfg2
  have hMEM := (hstage .MEM hcfg3).trans ((exec_MEM rfl (hfpOk .MEM hcfg3)).trans (hm _))
  have hcfg4 : (s3.atStage .MEM).passAlu.cfg = s.cfg := hcfg3
  have hWB := (hstage .WB hcfg4).trans (exec_WB rfl (hfpOk .WB hcfg4))
  refine ⟨(s3.atStage .MEM).passAlu.atStage .WB, ?_, ?_⟩
  · simp only [runAlone, hIF, hID, hEX, hMEM, hWB, andThen_next]
  · subst hs3 hs2
    simp [State.passAlu, hcfg, hgp, hfp, hidex, latchFetch]

/-! ## `XOR` -/

/-- What the hazard unit reads in a record of `XOR`: two sources, and a producer in every row (R201 to
R203). -/
theorem xor_record_roles {r : Record} {b : Bool} (h : r.op b = some .XOR) :
    srcs b r = [(.INT, r.src1), (.INT, r.src2)] ∧ destFile b r = .INT ∧
      rowOneProducer b r = true ∧ rowThreeProducer b r = true ∧ rowFourProducer b r = true := by
  simp [srcs, destFile, rowOneProducer, rowThreeProducer, rowFourProducer, h]

/-- `XOR` needs an integer unit (R221). -/
theorem unitClass_xor {r : Record} (h : r.op true = some .XOR) :
    unitClass true r = some .INTEGER := by
  simp [unitClass, h]

/-- The net effect of `XOR` on the integer registers. -/
theorem runAlone_xor_gp (rd rs rt : Reg) (s : State) :
    ∃ t, runAlone (encode (.xor rd rs rt)) s = .next t ∧
      t.gp = s.gp.set rd.val (s.gp[rs.val] ^^^ s.gp[rt.val]) := by
  obtain ⟨u, hrun, hgp, -, halu⟩ := runAlone_of_passAlu (s := s) (decode_encode_xor _ rd rs rt)
    (fun _ => rfl) (fun _ => rfl)
  refine ⟨_, hrun, ?_⟩
  calc (wbEffect u (.xor rd rs rt)).gp
      = u.gp.set rd.val u.memwb.aluOutput := rfl
    _ = s.gp.set rd.val (s.gp[rs.val] ^^^ s.gp[rt.val]) := by rw [hgp, halu]; rfl

/-- Settles O14: the record by `xor_record_roles` and `unitClass_xor`, the four stages by the equations
of `exec`, the net effect by `runAlone_xor_gp`, and the corner cases from it by the laws of the
exclusive or. -/
theorem xorWholeRule : Obligations.XorWholeRule := by
  refine ⟨fun rd rs rt => ?encoding, fun rd rs rt s => ?stages, fun rd rs rt s => ?effect⟩
  case encoding =>
    have roles b := xor_record_roles (op_encode_xor b rd rs rt)
    exact ⟨rfl, unitClass_xor (op_encode_xor true rd rs rt), fun b => (roles b).1,
      fun b => (roles b).2⟩
  case stages =>
    have hfp : fpOk s (.xor rd rs rt) := fun h => nomatch h
    exact ⟨fun h => exec_ID h hfp, fun h => exec_EX h hfp, fun h => exec_MEM h hfp,
      fun h => exec_WB h hfp⟩
  case effect =>
    obtain ⟨t, hrun, hgp⟩ := runAlone_xor_gp rd rs rt s
    refine ⟨t, hrun, hgp, fun hsame => ?_, fun hones => ?_, fun hs ht => ?_⟩
    · rw [hgp, hsame, BitVec.xor_self]
    · rw [hgp, hones, ← BitVec.xor_allOnes]; rfl
    · rw [hgp, hs, ht]; rfl

end Sys2Proof.Machine
end

section
/-! SUPPORT. The two statements of 45_pipeline_stages.md about a whole cycle that WB and MEM decide: a
memory wait cycle runs WB, the wait and the hazard handler and nothing else (R160), and no stage but WB
writes `halted` (R156). -/

namespace Sys2Proof.Machine

/-- A step of a running machine is a cycle (R153). -/
theorem cycleOf_of_step {s t : State} (hrun : Running s) (h : step s = .next t) :
    cycleOf s = .next t := by
  obtain ⟨-, ⟨hhalted, -⟩ | ⟨-, hcycle⟩⟩ := driverStep_cases h
  · rw [hrun.2] at hhalted; cases hhalted
  · exact hcycle

/-! ## A memory wait cycle -/

/-- WB writes nothing that the wait test reads (R155 to R157). -/
theorem memWaits_of_wbStage {s t : State} (h : wbStage s = .next t) : memWaits t = memWaits s := by
  obtain ⟨gp, fp, rfl⟩ := wbStage_frame h
  rfl

/-- Everything a memory wait cycle does: WB, the wait, the hazard handler and the end of the cycle; EX,
ID and IF do nothing (R159, R160, R172). -/
theorem cycleOf_of_memWaits {s t : State} (hw : memWaits s = true) (h : cycleOf s = .next t) :
    ∃ s1, wbStage s = .next s1 ∧ t = (hazardHandler s true (memWaitCycle s1)).endCycle := by
  obtain ⟨s1, hwb, ⟨-, ht⟩ | ⟨hgo, -⟩⟩ := cycleOf_cases h
  · exact ⟨s1, hwb, ht⟩
  · rw [memWaits_of_wbStage hwb, hw] at hgo; cases hgo

/-- Settles O32: of the parts of a memory wait cycle, which `cycleOf_of_memWaits` names, WB and the
handler write none of what EX writes and no latch behind it, by their frames; the wait itself writes
`MEMWB`, the countdown and `total_stalls`, and the end of the cycle ticks the units. -/
theorem exHoldsDuringMemoryWait : Obligations.ExHoldsDuringMemoryWait := by
  intro s t hrun hw h
  obtain ⟨s1, hwb, rfl⟩ := cycleOf_of_memWaits hw (cycleOf_of_step hrun h)
  obtain ⟨gp, fp, rfl⟩ := wbStage_frame hwb
  obtain ⟨k, r, z, n, hh⟩ := hazardHandler_frame s true (memWaitCycle _)
  rw [hh]
  exact ⟨rfl, rfl, rfl, rfl, rfl, rfl, rfl⟩

/-! ## `halted` -/

@[simp] theorem hazardHandler_halted (start : State) (frozen : Bool) (s : State) :
    (hazardHandler start frozen s).halted = s.halted := by
  obtain ⟨k, r, z, n, h⟩ := hazardHandler_frame start frozen s
  rw [h]

@[simp] theorem memWaitCycle_halted (s : State) : (memWaitCycle s).halted = s.halted := rfl

@[simp] theorem memProceed_halted (s : State) : (memProceed s).halted = s.halted := by
  unfold memProceed; split <;> rfl

@[simp] theorem acquireUnit_halted (s : State) : (acquireUnit s).halted = s.halted := by
  obtain ⟨us, held, h⟩ := acquireUnit_frame s
  rw [h]

@[simp] theorem releaseUnit_halted (s : State) : (releaseUnit s).halted = s.halted := by
  obtain ⟨held, h⟩ := releaseUnit_frame s
  rw [h]

@[simp] theorem exWaitCycle_halted (s : State) : (exWaitCycle s).halted = s.halted := rfl

theorem memStage_halted {s t : State} (h : memStage s = .next t) : t.halted = s.halted := by
  obtain ⟨m, l, rfl, -⟩ := memStage_frame h
  exact memProceed_halted s

theorem exStage_halted {s t : State} (h : exStage s = .next t) : t.halted = s.halted := by
  obtain ⟨bp, bt, rfl, -⟩ := exStage_frame h
  exact releaseUnit_halted s

theorem idStage_halted {s t : State} (h : idStage s = .next t) : t.halted = s.halted := by
  obtain ⟨l, r, g, rfl, -⟩ := idStage_frame h
  rfl

theorem ifStage_halted {s t : State} (h : ifStage s = .next t) : t.halted = s.halted := by
  obtain ⟨-, rfl⟩ | ⟨-, rfl⟩ | ⟨-, -, rfl⟩ | ⟨-, -, hfetch⟩ := ifStage_cases h
  · rfl
  · rfl
  · rfl
  · obtain ⟨r, -, -, rfl⟩ := fetchAt_frame hfetch
    rw [redirect_frame]

/-- After WB no stage of any kind of cycle writes `halted`. -/
theorem cycleOf_halted {s t : State} (h : cycleOf s = .next t) :
    ∃ s1, wbStage s = .next s1 ∧ t.halted = s1.halted := by
  obtain ⟨s1, hwb, ⟨-, rfl⟩ | ⟨-, s2, hmem, ⟨-, rfl⟩ | ⟨-, s3, s4, s5, hex, hid, hif, rfl⟩⟩⟩ :=
    cycleOf_cases h
  · exact ⟨s1, hwb, by simp⟩
  · exact ⟨s1, hwb, by simp [memStage_halted hmem]⟩
  · refine ⟨s1, hwb, ?_⟩
    calc s5.endCycle.halted
        = s5.halted := rfl
      _ = s4.halted := ifStage_halted hif
      _ = s3.halted := by rw [idStage_halted hid, hazardHandler_halted]
      _ = s2.halted := by rw [exStage_halted hex, acquireUnit_halted]
      _ = s1.halted := memStage_halted hmem

/-- Settles O41: `halted` at the end of the cycle is what WB leaves, by `cycleOf_halted`, and what WB
leaves stands in its frame, with the `branch_pending` of the start of the cycle. -/
theorem haltExactlyAtCommittedEop : Obligations.HaltExactlyAtCommittedEop := by
  intro s t hrun h
  obtain ⟨s1, hwb, ht⟩ := cycleOf_halted (cycleOf_of_step hrun h)
  obtain ⟨gp, fp, rfl⟩ := wbStage_frame hwb
  rw [ht]
  simp [hrun.2]

end Sys2Proof.Machine
end

section
/-! SUPPORT. The detection function of the hazard unit, one equation for each row of its table
(46_hazard_unit.md R203, R204). -/

namespace Sys2Proof.Machine

/-- A row of the table applies: the latch holds a producer of that row, and it matches the consumer
(R202, R203). -/
abbrev RowApplies (producer : Bool → Record → Bool) (b : Bool) (p c : Record) : Prop :=
  producer b p = true ∧ matchesSrc b p c = true

section Rows
variable {b : Bool} {c idex exmem memwb : Record}

/-- `raw` is the table read from the latch nearest to the consumer outwards. -/
theorem raw_eq_table : raw b c idex exmem memwb =
    if RowApplies rowOneProducer b idex c then 2
    else if RowApplies rowThreeProducer b exmem c then 1
    else if RowApplies rowFourProducer b memwb c then 1
    else 0 := by
  simp only [raw, Bool.and_eq_true]

theorem raw_of_rowOne (h1 : RowApplies rowOneProducer b idex c) :
    raw b c idex exmem memwb = 2 := by
  rw [raw_eq_table, if_pos h1]

theorem raw_of_rowThree (h1 : ¬ RowApplies rowOneProducer b idex c)
    (h3 : RowApplies rowThreeProducer b exmem c) : raw b c idex exmem memwb = 1 := by
  rw [raw_eq_table, if_neg h1, if_pos h3]

theorem raw_of_rowFour (h1 : ¬ RowApplies rowOneProducer b idex c)
    (h3 : ¬ RowApplies rowThreeProducer b exmem c) (h4 : RowApplies rowFourProducer b memwb c) :
    raw b c idex exmem memwb = 1 := by
  rw [raw_eq_table, if_neg h1, if_neg h3, if_pos h4]

theorem raw_of_no_row (h1 : ¬ RowApplies rowOneProducer b idex c)
    (h3 : ¬ RowApplies rowThreeProducer b exmem c) (h4 : ¬ RowApplies rowFourProducer b memwb c) :
    raw b c idex exmem memwb = 0 := by
  rw [raw_eq_table, if_neg h1, if_neg h3, if_neg h4]

/-- A match in an older latch asks for at least one cycle, whichever latch decides. -/
theorem one_le_raw
    (h : RowApplies rowThreeProducer b exmem c ∨ RowApplies rowFourProducer b memwb c) :
    1 ≤ raw b c idex exmem memwb := by
  by_cases h1 : RowApplies rowOneProducer b idex c
  · rw [raw_of_rowOne h1]; decide
  by_cases h3 : RowApplies rowThreeProducer b exmem c
  · rw [raw_of_rowThree h1 h3]
  · rw [raw_of_rowFour h1 h3 (h.resolve_left h3)]

/-- No row asks for more than row 1 does. -/
theorem raw_le_two : raw b c idex exmem memwb ≤ 2 := by
  by_cases h1 : RowApplies rowOneProducer b idex c
  · rw [raw_of_rowOne h1]
  by_cases h3 : RowApplies rowThreeProducer b exmem c
  · rw [raw_of_rowThree h1 h3]; decide
  by_cases h4 : RowApplies rowFourProducer b memwb c
  · rw [raw_of_rowFour h1 h3 h4]; decide
  · rw [raw_of_no_row h1 h3 h4]; decide

end Rows

/-- Settles O44: the nearest latch by the equations of the rows, the largest count by the bounds on
`raw`. -/
theorem nearestProducerDecides : Obligations.NearestProducerDecides :=
  fun _ _ _ _ _ => ⟨raw_of_rowOne, raw_of_rowThree, raw_of_rowFour, one_le_raw, raw_le_two⟩

end Sys2Proof.Machine
end

section
/-! SUPPORT. Encoding and decoding are inverse on well-formed records and words (30_encoding.md sections
1 and 2), and which numbers no opcode has (section 3). -/

namespace Sys2Proof

/-! ## The opcode field -/

/-- The number of an opcode is read back as the opcode in every variant that has it (R82, R89). -/
theorem decodeOpcode_number {b : Bool} {o : Opcode} (h : o.needsFp = true → b = true) :
    decodeOpcode b o.number = some o := by
  revert h; cases b <;> cases o <;> decide

/-- A number that is read as an opcode is that opcode's own. -/
theorem number_of_decodeOpcode {b : Bool} {n : Word} {o : Opcode} (h : decodeOpcode b n = some o) :
    o.number = n := by
  apply BitVec.eq_of_toNat_eq
  have numbered : ∀ (b : Bool) (k : Fin 22),
      (integerOpcodes ++ if b then fpOpcodes else [])[k.val]? = some o → o.number.toNat = k.val := by
    cases o <;> decide
  have hlt : n.toNat < 22 := by
    have := (List.getElem?_eq_some_iff.1 h).1
    cases b <;> simp [integerOpcodes, fpOpcodes] at this <;> omega
  exact numbered b ⟨n.toNat, hlt⟩ h

/-- The unknown numbers are those past the end of the variant's opcode list. -/
theorem decodeOpcode_eq_none {b : Bool} {n : Word} :
    decodeOpcode b n = none ↔ (if b then 22 else 16) ≤ n.toNat := by
  cases b <;> simp [decodeOpcode, integerOpcodes, fpOpcodes]

theorem encode_opcode (i : Instr) : (encode i).opcode = i.opcode.number := by
  cases i <;> rfl

/-! ## The other fields, format by format -/

theorem decodeDestSrc_encodeDestSrc (op : Opcode) (k : Reg → Reg → Word → Instr) (d s : Reg)
    (imm : Word) : decodeDestSrc (encodeDestSrc op d s imm) k = .instr (k d s imm) := by
  simp [decodeDestSrc, encodeDestSrc]

theorem decodeTwoSrc_encodeTwoSrc (op : Opcode) (k : Reg → Reg → Word → Instr) (s t : Reg)
    (imm : Word) : decodeTwoSrc (encodeTwoSrc op s t imm) k = .instr (k s t imm) := by
  simp [decodeTwoSrc, encodeTwoSrc]

theorem decodeOneSrc_encodeOneSrc (op : Opcode) (k : Reg → Word → Instr) (s : Reg) (imm : Word) :
    decodeOneSrc (encodeOneSrc op s imm) k = .instr (k s imm) := by
  simp [decodeOneSrc, encodeOneSrc]

/-- Under its own opcode the record of an instruction is read back as the instruction. -/
theorem decodeFields_encode (i : Instr) : decodeFields (encode i) i.opcode = .instr i := by
  cases i with
  | add | sub | xor | adds | subs | mults | divs => exact decodeThree_encodeThree ..
  | lw | addi | subi | lws => exact decodeDestSrc_encodeDestSrc ..
  | sw | sws => exact decodeTwoSrc_encodeTwoSrc ..
  | beqz | bnez | bltz | bgtz | blez | bgez => exact decodeOneSrc_encodeOneSrc ..
  | jump | eop | nop => rfl

/-- Decoding inverts encoding on records. -/
theorem decodeRecord_encode {b : Bool} {i : Instr} (h : i.opcode.needsFp = true → b = true) :
    decodeRecord b (encode i) = .instr i := by
  rw [decodeRecord, Record.op, encode_opcode, decodeOpcode_number h]
  exact decodeFields_encode i

/-! ## Records and words -/

theorem Record.ofBits_toBits (r : Record) : Record.ofBits r.toBits = r := by
  obtain ⟨o, d, s, t, m⟩ := r
  simp only [Record.ofBits, Record.toBits, Record.mk.injEq]
  refine ⟨?_, ?_, ?_, ?_, ?_⟩ <;>
  · ext i hi
    simp only [BitVec.getElem_extractLsb', BitVec.getLsbD_append]
    grind

theorem Record.toBits_ofBits (w : BitVec 160) : (Record.ofBits w).toBits = w := by
  have glue (s n m : Nat) : w.extractLsb' (s + n) m ++ w.extractLsb' s n = w.extractLsb' s (m + n) :=
    BitVec.extractLsb'_append_extractLsb'_eq_extractLsb' rfl
  simp only [Record.toBits, Record.ofBits]
  rw [glue 96 32, glue 64 32, glue 32 32, glue 0 32, BitVec.extractLsb'_eq_self]

/-- Settles O1: the record by `decodeRecord_encode`, the word by `Record.ofBits_toBits`, and the opcode
table's word is the word itself, since it holds all 160 bits. -/
theorem decodeInvertsEncode : Obligations.DecodeInvertsEncode := by
  intro b i h
  have hbits : ∀ b, decodeBits b (encodeBits i) = decodeRecord b (encode i) := fun b => by
    rw [decodeBits, encodeBits, Record.ofBits_toBits]
  have htable : tableRecord 160 (encodeBits i).toNat = encode i := by
    rw [tableRecord, Nat.mod_eq_of_lt (encodeBits i).isLt, BitVec.ofNat_toNat, BitVec.setWidth_eq,
      encodeBits, Record.ofBits_toBits]
  refine ⟨decodeRecord_encode h, (hbits b).trans (decodeRecord_encode h), ?_⟩
  rw [decodeTableWord, htable, decodeRecord_encode fun _ => rfl]

/-! ## Well-formed records -/

/-- A field that indexes a register is the field of that register. -/
theorem Reg.field_of_lt {w : Word} (h : w.toNat < 32) : Reg.field ⟨w.toNat, h⟩ = w :=
  BitVec.ofNat_toNat .. |>.trans (by simp)

/-- A well-formed record decodes to an instruction whose record it is. -/
theorem decode_of_wellFormed {b : Bool} {r : Record} (h : r.wellFormed b = true) :
    ∃ i, decodeRecord b r = .instr i ∧ encode i = r := by
  unfold Record.wellFormed at h
  split at h
  · cases h
  · next o ho =>
    have hnum : o.number = r.opcode := number_of_decodeOpcode ho
    rw [decodeRecord, ho]
    obtain ⟨n, d, s, t, m⟩ := r
    dsimp only at hnum h
    subst hnum
    cases o <;>
      simp [Opcode.roles, regFieldOk] at h <;>
      simp [decodeFields, decodeThree, decodeDestSrc, decodeTwoSrc, decodeOneSrc, h, encode,
        encodeThree, encodeDestSrc, encodeTwoSrc, encodeOneSrc, encodeNone, Reg.field_of_lt]

/-- Settles O2: the record of a well-formed word by `decode_of_wellFormed`, its word by
`Record.toBits_ofBits`. -/
theorem encodeInvertsDecode : Obligations.EncodeInvertsDecode := by
  intro b w h
  obtain ⟨i, hd, he⟩ := decode_of_wellFormed h
  exact ⟨i, hd, by rw [encodeBits, he, Record.toBits_ofBits]⟩

/-- Settles O3: `decode_unknown` with the length of the variant's opcode list. -/
theorem unknownOpcodeNumbers : Obligations.UnknownOpcodeNumbers :=
  fun _ _ => decode_unknown.trans decodeOpcode_eq_none

/-- Settles O4: six words, each decoded by evaluation. -/
theorem writtenWordsDecode : Obligations.WrittenWordsDecode := by
  unfold Obligations.WrittenWordsDecode
  decide

end Sys2Proof
end

section
/-! SUPPORT. The cycle as a two-phase evaluation (45_pipeline_stages.md R150, R151): each stage read off
the state at the start of the cycle, and the six kinds of cycle with the whole state each leaves. -/

namespace Sys2Proof.Machine

/-! ## What a stage does not read -/

/-- The outcome with its next state changed. -/
def mapNext (f : State → State) (o : Result) : Result := andThen o fun t => .next (f t)

@[simp] theorem mapNext_next (f : State → State) (s : State) : mapNext f (.next s) = .next (f s) := rfl

@[simp] theorem mapNext_fault (f : State → State) (x : Fault) : mapNext f (.fault x) = .fault x := rfl

@[simp] theorem mapNext_refused (f : State → State) (x : Refusal) :
    mapNext f (.refused x) = .refused x := rfl

/-- What WB leaves for the stages that run after it: the two register files, `halted` and the stage
mark, put into another state. -/
def afterWb (s1 s : State) : State :=
  { s with gp := s1.gp, fp := s1.fp, halted := s1.halted, stage := .WB }

/-- What MEM leaves, on top of WB: data memory, `MEMWB` and the memory-latency state. -/
def afterMem (s1 s2 s : State) : State :=
  { s with
    gp := s1.gp, fp := s1.fp, halted := s1.halted
    dmem := s2.dmem, memwb := s2.memwb, memStall := s2.memStall, memCnt := s2.memCnt
    stage := .MEM }

/-- What EX leaves, on top of WB and MEM: `EXMEM`, the redirect and the functional units. -/
def afterEx (s1 s2 u s : State) : State :=
  { s with
    gp := s1.gp, fp := s1.fp, halted := s1.halted
    dmem := s2.dmem, memwb := s2.memwb, memStall := s2.memStall, memCnt := s2.memCnt
    exmem := u.exmem, branchPending := u.branchPending, branchTarget := u.branchTarget
    units := u.units, exUnit := u.exUnit, stage := .EX }

theorem wbStage_eq_afterWb {s s1 : State} (h : wbStage s = .next s1) : s1 = afterWb s1 s := by
  obtain ⟨gp, fp, rfl⟩ := wbStage_frame h
  rfl

theorem memProceed_cfg (s : State) : (memProceed s).cfg = s.cfg := by
  unfold memProceed; split <;> rfl

theorem memProceed_afterWb (s1 s : State) :
    memProceed (afterWb s1 s) = afterWb s1 (memProceed s) := by
  simp only [memProceed, apply_ite (afterWb s1)]
  rfl

/-- MEM of a record, by its opcode's row. -/
theorem memStage_eq (s : State) :
    memStage s =
      if registersInRange s.cfg.hasFp s.exmem.ir then
        memAccess ((memProceed s).atStage .MEM) ((s.exmem.ir.op s.cfg.hasFp).getD .EOP)
      else .refused .registerOutOfRange := by
  rw [memStage, execRecord_MEM, memProceed_cfg]
  split
  · next h => rw [middle_opcode h]
  · rfl

/-- EX of a record, by its opcode's row. -/
theorem exStage_eq (s : State) :
    exStage s =
      if registersInRange s.cfg.hasFp s.idex.ir then
        .next ((resolved ((releaseUnit s).atStage .EX)
          ((s.idex.ir.op s.cfg.hasFp).getD .EOP)).setExmem
            (exmemOf s.cfg s.idex ((s.idex.ir.op s.cfg.hasFp).getD .EOP)))
      else .refused .registerOutOfRange := by
  have hc : (releaseUnit s).cfg = s.cfg := by unfold releaseUnit; split <;> rfl
  have hi : (releaseUnit s).idex = s.idex := by unfold releaseUnit; split <;> rfl
  rw [exStage, execRecord_EX, hc, hi]
  split
  · next h => rw [middle_opcode h]
  · rfl

/-- MEM's access reads nothing that WB writes. -/
theorem memAccess_afterWb (s1 s : State) (o : Opcode) :
    memAccess ((afterWb s1 s).atStage .MEM) o =
      mapNext (fun s2 => afterMem s1 s2 s) (memAccess (s.atStage .MEM) o) := by
  cases o
  case LW | LWS => simp only [memAccess, State.loadAccess, apply_ite (mapNext _)]; rfl
  case SW | SWS => simp only [memAccess, State.storeAccess, apply_ite (mapNext _)]; rfl
  all_goals rfl

/-- MEM reads nothing that WB writes. -/
theorem memStage_afterWb (s1 s : State) :
    memStage (afterWb s1 s) = mapNext (fun s2 => afterMem s1 s2 s) (memStage s) := by
  have hframe (s2 : State) : afterMem s1 s2 (memProceed s) = afterMem s1 s2 s := by
    unfold memProceed; split <;> rfl
  rw [memStage_eq, memStage_eq, memProceed_afterWb, memAccess_afterWb, apply_ite (mapNext _)]
  simp only [hframe]
  rfl

/-- The unit tracker reads nothing that WB or MEM writes. -/
theorem acquireUnit_afterMem (s1 s2 s : State) :
    acquireUnit (afterMem s1 s2 s) = afterMem s1 s2 (acquireUnit s) := by
  unfold acquireUnit
  simp only [afterMem]
  split
  · split <;> rfl
  · rfl
  · rfl

/-- EX reads nothing that WB or MEM writes. -/
theorem exStage_afterMem (s1 s2 s : State) :
    exStage (acquireUnit (afterMem s1 s2 s)) =
      mapNext (fun u => afterEx s1 s2 u s) (exStage (acquireUnit s)) := by
  obtain ⟨us, held, ha⟩ := acquireUnit_frame s
  rw [acquireUnit_afterMem, ha, exStage_eq, exStage_eq, apply_ite (mapNext _)]
  congr 1
  have hrel (x : State) : releaseUnit (afterMem s1 s2 x) = afterMem s1 s2 (releaseUnit x) := by
    unfold releaseUnit; simp only [afterMem]; split <;> rfl
  obtain ⟨held', hr⟩ := releaseUnit_frame { s with units := us, exUnit := held }
  rw [hrel, hr]
  simp only [mapNext_next, resolved]
  simp only [afterMem, State.atStage]
  split <;> rfl

/-! ## The cycle, every stage read off its start -/

/-- `Cycle()` with MEM, the unit tracker and EX run on the state at the start of the cycle (R151). -/
theorem cycleOf_twoPhase (s : State) :
    cycleOf s = andThen (wbStage s) fun s1 =>
      if memWaits s then frozenEnd s (memWaitCycle (afterWb s1 s))
      else andThen (memStage s) fun s2 =>
        if exDone (acquireUnit s) then
          andThen (exStage (acquireUnit s)) fun u => frontEnd s (afterEx s1 s2 u s)
        else frozenEnd s (exWaitCycle (afterMem s1 s2 (acquireUnit s))) := by
  unfold cycleOf
  cases hwb : wbStage s with
  | fault f => rfl
  | refused r => rfl
  | next s1 =>
    rw [andThen_next, andThen_next, wbStage_eq_afterWb hwb, memAndFront]
    have hw : memWaits (afterWb s1 s) = memWaits s := rfl
    rw [hw, memStage_afterWb]
    refine if_congr Iff.rfl rfl ?_
    cases memStage s with
    | fault f => rfl
    | refused r => rfl
    | next s2 =>
      rw [mapNext_next, andThen_next, andThen_next, exAndFront, exStage_afterMem,
        acquireUnit_afterMem]
      have hd : exDone (afterMem s1 s2 (acquireUnit s)) = exDone (acquireUnit s) := rfl
      rw [hd]
      refine if_congr Iff.rfl ?_ rfl
      cases exStage (acquireUnit s) <;> rfl

/-! ## The hazard handler in a cycle -/

/-- What the handler adds to `total_stalls`: the size of the stall it releases (R207). -/
def releasedStalls (s : State) (frozen : Bool) : Word :=
  if s.stallKind ≠ .NONE ∧ s.stallRem = 0 ∧ frozen = false then BitVec.ofNat 32 s.stallSize else 0#32

/-- The setting of a stall, as a table: RAW before BRANCH before none (R206). -/
theorem setHazardStall_eq (c x m w : Record) (s : State) :
    setHazardStall c x m w s =
      if 0 < raw s.cfg.hasFp c x m w then
        s.setStall .RAW (raw s.cfg.hasFp c x m w) (raw s.cfg.hasFp c x m w)
      else if isBranch s.cfg.hasFp c then s.setStall .BRANCH 2 2
      else s := rfl

/-- The release of a stall, as a table: a branch in `IFID` starts the next one (R207, R208). -/
theorem releaseStall_eq (c : Record) (s : State) :
    releaseStall c s =
      if isBranch s.cfg.hasFp c then (s.addStalls s.stallSize).setStall .BRANCH 2 2
      else (s.addStalls s.stallSize).setStall .NONE 0 0 := rfl

/-- What the handler leaves of the stall state, put into another state. -/
def takeStall (h : State) (added : Word) (s : State) : State :=
  { s with
    stallKind := h.stallKind, stallRem := h.stallRem, stallSize := h.stallSize
    totalStalls := s.totalStalls + added }

/-- The handler decides by the latches and the stall state at the start of the cycle alone (R200,
R206). -/
theorem hazardHandler_eq {s b : State} (frozen : Bool) (hc : b.cfg = s.cfg)
    (hk : b.stallKind = s.stallKind) (hr : b.stallRem = s.stallRem) (hz : b.stallSize = s.stallSize) :
    hazardHandler s frozen b = takeStall (hazardHandler s frozen s) (releasedStalls s frozen) b := by
  by_cases h : s.stallKind = .NONE
  · have hb : b.stallKind = .NONE := hk.trans h
    rw [hazardHandler_set hb, hazardHandler_set h, setHazardStall_eq, setHazardStall_eq, hc]
    simp only [takeStall, releasedStalls, h]
    split
    · simp [State.setStall]
    · split
      · simp [State.setStall]
      · simp [← h, ← hk, ← hr, ← hz]
  have hb : b.stallKind ≠ .NONE := fun h' => h (hk ▸ h')
  by_cases h0 : frozen = true ∨ s.stallRem ≠ 0
  · rw [hazardHandler_held hb (hr ▸ h0), hazardHandler_held h h0]
    have hn : releasedStalls s frozen = 0#32 := by
      rw [releasedStalls, if_neg]; rintro ⟨-, h1, h2⟩; simp [h1, h2] at h0
    simp [takeStall, hn, ← hk, ← hr, ← hz]
  · obtain ⟨hf, hrem⟩ := not_or.1 h0
    simp only [Bool.not_eq_true, not_not] at hf hrem
    rw [hf, hazardHandler_release hb (hr.trans hrem), hazardHandler_release h hrem, releaseStall_eq,
      releaseStall_eq, hc]
    simp only [takeStall, releasedStalls, hrem]
    split <;> simp [State.setStall, State.addStalls, hz, h]

/-- A frozen cycle releases no stall (R209). -/
@[simp] theorem releasedStalls_frozen (s : State) : releasedStalls s true = 0#32 := by
  simp [releasedStalls]

/-- The end of a frozen cycle sets a stall or leaves it as it is (R172, R209). -/
theorem frozenEnd_eq {s b : State} (hc : b.cfg = s.cfg) (hk : b.stallKind = s.stallKind)
    (hr : b.stallRem = s.stallRem) (hz : b.stallSize = s.stallSize) :
    frozenEnd s b = .next (takeStall (hazardHandler s true s) 0#32 b).endCycle := by
  rw [frozenEnd, hazardHandler_eq true hc hk hr hz, releasedStalls_frozen]

/-! ## The six kinds of cycle -/

/-- The stages of an unfrozen cycle up to EX, each run on the state at its start: `s1` is what WB
answers, `s2` what MEM and `u` what EX. -/
structure BackEnd (s s1 s2 u : State) : Prop where
  wb : wbStage s = .next s1
  go : memWaits s = false
  mem : memStage s = .next s2
  done : exDone (acquireUnit s) = true
  ex : exStage (acquireUnit s) = .next u

/-- The state at the end of the hazard handler of an unfrozen cycle. -/
def handled (s s1 s2 u : State) : State :=
  takeStall (hazardHandler s false s) (releasedStalls s false) (afterEx s1 s2 u s)

/-- The latch that ID of the record in `IFID` writes, with the registers as WB has left them in
`s1`. -/
def decodedLatch (s1 s : State) : Latch :=
  idexOf (afterWb s1 s) (Decoded.middle (decodeRecord s.cfg.hasFp s.ifid.ir))

/-- `IFID` after the fetch of a record at the redirected `pc`. -/
def fetchedLatch (r : Record) (u : State) : Latch := { bubble with ir := r, npc := nextPc (redirect u) }

/-- The six kinds of cycle, each with the whole state at its end: a memory wait, an EX wait, and the
unfrozen cycles in a RAW stall, in a BRANCH stall, in the drain after an `EOP` and with a fetch. -/
inductive CycleTo (s : State) : State → Prop
  | memWait {s1} (wb : wbStage s = .next s1) (wait : memWaits s = true) :
    CycleTo s (takeStall (hazardHandler s true s) 1#32
      { afterWb s1 s with
        memStall := true, memCnt := memCountdown s - 1, memwb := bubble }).endCycle
  | exWait {s1 s2} (wb : wbStage s = .next s1) (go : memWaits s = false)
    (mem : memStage s = .next s2) (busy : exDone (acquireUnit s) = false) :
    CycleTo s (takeStall (hazardHandler s true s) 1#32
      { afterMem s1 s2 s with
        exmem := exBubble
        units := (acquireUnit s).units, exUnit := (acquireUnit s).exUnit }).endCycle
  | raw {s1 s2 u} (back : BackEnd s s1 s2 u) (kind : (hazardHandler s false s).stallKind = .RAW) :
    CycleTo s
      ({ handled s s1 s2 u with
        idex := bubble, stallRem := (hazardHandler s false s).stallRem - 1 } : State).endCycle
  | branch {s1 s2 u} (back : BackEnd s s1 s2 u)
    (kind : (hazardHandler s false s).stallKind = .BRANCH)
    (regs : registersInRange s.cfg.hasFp s.ifid.ir = true) :
    CycleTo s
      ({ handled s s1 s2 u with
        idex := decodedLatch s1 s, ifid := bubble
        stallRem := (hazardHandler s false s).stallRem - 1 } : State).endCycle
  | drain {s1 s2 u} (back : BackEnd s s1 s2 u)
    (kind : (hazardHandler s false s).stallKind = .NONE)
    (regs : registersInRange s.cfg.hasFp s.ifid.ir = true) (eop : s.eopFetched = true) :
    CycleTo s
      ({ handled s s1 s2 u with idex := decodedLatch s1 s, ifid := bubble } : State).endCycle
  | fetch {s1 s2 u r} (back : BackEnd s s1 s2 u)
    (kind : (hazardHandler s false s).stallKind = .NONE)
    (regs : registersInRange s.cfg.hasFp s.ifid.ir = true) (eop : s.eopFetched = false)
    (fetched : fetchRecord (redirect u) = .ok r) (inRange : registersInRange s.cfg.hasFp r = true) :
    CycleTo s
      ({ handled s s1 s2 u with
        idex := decodedLatch s1 s
        pc := nextPc (redirect u)
        ifid := fetchedLatch r u
        branchPending := false
        fetchedCount := s.fetchedCount + 1#32
        instCount := if r.op s.cfg.hasFp = some .EOP then s.instCount else s.instCount + 1#32
        eopFetched := s.eopFetched || decide (r.op s.cfg.hasFp = some .EOP) } : State).endCycle

/-- EX changes none of what a fetch reads but the redirect. -/
theorem exStage_keeps {s u : State} (h : exStage (acquireUnit s) = .next u) :
    u.cfg = s.cfg ∧ u.pc = s.pc ∧ u.base = s.base ∧ u.imem = s.imem := by
  obtain ⟨bp, bt, rfl, -⟩ := exStage_frame h
  obtain ⟨held, hr⟩ := releaseUnit_frame (acquireUnit s)
  obtain ⟨us, held', ha⟩ := acquireUnit_frame s
  rw [hr, ha]
  exact ⟨rfl, rfl, rfl, rfl⟩

/-- What a fetch depends on. -/
theorem fetch_congr {s t : State} (hpc : s.pc = t.pc) (hb : s.base = t.base) (hi : s.imem = t.imem) :
    fetchRecord s = fetchRecord t ∧ nextPc s = nextPc t := by
  have hk : fetchIndex s = fetchIndex t := by rw [fetchIndex, fetchIndex, hpc, hb]
  exact ⟨by rw [fetchRecord, fetchRecord, hk, hpc, hb, hi], by rw [nextPc, nextPc, hk, hb]⟩

/-- IF of an unfrozen cycle fetches where it would right after EX. -/
theorem fetch_handled {s s1 s2 u : State} (hex : exStage (acquireUnit s) = .next u) (l : Latch)
    (g : Stage) :
    fetchRecord (redirect { handled s s1 s2 u with idex := l, stage := g }) =
        fetchRecord (redirect u) ∧
      nextPc (redirect { handled s s1 s2 u with idex := l, stage := g }) = nextPc (redirect u) := by
  obtain ⟨-, hpc, hbase, himem⟩ := exStage_keeps hex
  apply fetch_congr
  · rw [redirect_pc, redirect_pc, hpc]; rfl
  · rw [redirect_frame, redirect_frame u]; exact hbase.symm
  · rw [redirect_frame, redirect_frame u]; exact himem.symm

/-- ID and IF after the handler, in each state it can leave the stall in. -/
theorem frontEnd_cases {s s1 s2 u t : State} (back : BackEnd s s1 s2 u)
    (h : frontEnd s (afterEx s1 s2 u s) = .next t) : CycleTo s t := by
  have hh : hazardHandler s false (afterEx s1 s2 u s) = handled s s1 s2 u :=
    hazardHandler_eq false rfl rfl rfl rfl
  rw [frontEnd, hh] at h
  obtain ⟨s4, hid, h⟩ := andThen_eq_next.1 h
  obtain ⟨s5, hif, h⟩ := andThen_eq_next.1 h
  obtain rfl := Host.Outcome.next.inj h
  have hkind : (handled s s1 s2 u).stallKind = (hazardHandler s false s).stallKind := rfl
  by_cases hraw : (hazardHandler s false s).stallKind = .RAW
  · rw [idStage, if_pos (hkind.trans hraw)] at hid
    obtain rfl := Host.Outcome.next.inj hid
    obtain ⟨hk, -⟩ | ⟨-, rfl⟩ | ⟨hk, -⟩ | ⟨hk, -⟩ := ifStage_cases hif
    · exact absurd (hraw.symm.trans hk) (by decide)
    · have hc := CycleTo.raw back hraw
      exact hc
    · exact absurd (hraw.symm.trans hk) (by decide)
    · exact absurd (hraw.symm.trans hk) (by decide)
  · rw [idStage, if_neg (fun hk => hraw (hkind.symm.trans hk)), execRecord_ID] at hid
    split at hid
    · next regs =>
      replace regs : registersInRange s.cfg.hasFp s.ifid.ir = true := regs
      have hs4 : s4 = { handled s s1 s2 u with idex := decodedLatch s1 s, stage := .ID } :=
        (Host.Outcome.next.inj hid).symm
      subst hs4
      obtain ⟨hk, rfl⟩ | ⟨hk, -⟩ | ⟨hk, heop, rfl⟩ | ⟨hk, heop, hfetch⟩ := ifStage_cases hif
      · have hc := CycleTo.branch back hk regs
        exact hc
      · exact absurd hk hraw
      · have hc := CycleTo.drain back hk regs heop
        exact hc
      · obtain ⟨r, hr, hreg, rfl⟩ := fetchAt_frame hfetch
        obtain ⟨hrec, hnext⟩ := fetch_handled (s1 := s1) (s2 := s2) back.ex (decodedLatch s1 s) .ID
        rw [hrec] at hr
        rw [redirect_frame] at hreg
        have hc := CycleTo.fetch back hk regs heop hr hreg
        rw [hnext, redirect_frame]
        exact hc
    · cases hid

/-- Everything a step of a running machine can do. -/
theorem cycleTo_of_step {s t : State} (hrun : Running s) (h : step s = .next t) : CycleTo s t := by
  have hc := cycleOf_of_step hrun h
  rw [cycleOf_twoPhase] at hc
  obtain ⟨s1, hwb, hc⟩ := andThen_eq_next.1 hc
  split at hc
  · next hw =>
    rw [frozenEnd_eq (s := s) (b := memWaitCycle (afterWb s1 s)) rfl rfl rfl rfl] at hc
    obtain rfl := Host.Outcome.next.inj hc
    have hc := CycleTo.memWait hwb hw
    rw [takeStall, memWaitCycle, State.addStalls]
    simp only [BitVec.add_zero]
    exact hc
  · next hw =>
    obtain ⟨s2, hmem, hc⟩ := andThen_eq_next.1 hc
    simp only [Bool.not_eq_true] at hw
    split at hc
    · next hd =>
      obtain ⟨u, hex, hc⟩ := andThen_eq_next.1 hc
      exact frontEnd_cases ⟨hwb, hw, hmem, hd, hex⟩ hc
    · next hd =>
      simp only [Bool.not_eq_true] at hd
      obtain ⟨us, held, ha⟩ := acquireUnit_frame s
      rw [frozenEnd_eq (s := s) (b := exWaitCycle (afterMem s1 s2 (acquireUnit s))) (by rw [ha]; rfl)
        (by rw [ha]; rfl) (by rw [ha]; rfl) (by rw [ha]; rfl)] at hc
      obtain rfl := Host.Outcome.next.inj hc
      have hc := CycleTo.exWait hwb hw hmem hd
      rw [takeStall, exWaitCycle, State.addStalls]
      simp only [BitVec.add_zero]
      rw [ha] at hc ⊢
      exact hc

end Sys2Proof.Machine
end

section
/-! SUPPORT. The latch invariant, latch by latch: what each stage writes holds `UNDEF` in the fields its
opcode does not use there (10_state.md R32, R33). -/

namespace Sys2Proof.Machine

/-! ## IDEX -/

theorem operandA_of_usesA {s : State} {i : Instr} (h : usesA (some i.opcode) = false) :
    operandA s i = undef := by
  cases i <;> simp [Instr.opcode, usesA, operandA] at h ⊢

theorem operandB_of_usesB {s : State} {i : Instr} (h : usesB (some i.opcode) = false) :
    operandB s i = undef := by
  cases i <;> simp [Instr.opcode, usesB, operandB] at h ⊢

/-- What ID writes of an instruction that has the opcode and the immediate of its record. -/
theorem idexInv_idexOf {b : Bool} {s : State} {i : Instr} (hop : s.ifid.ir.op b = some i.opcode)
    (himm : ∀ x ∈ i.imm?, x = s.ifid.ir.imm) : IdexInv b (idexOf s i) := by
  by_cases hn : i.opcode = .NOP
  · simp [idexOf, hn, hop, bubble, usesA, usesB]
  · have hi : i.imm?.getD s.ifid.ir.imm = s.ifid.ir.imm := by
      cases h : i.imm? with
      | none => rfl
      | some x => exact himm x h
    simp only [idexOf, hn, if_false, hi]
    exact ⟨rfl, rfl, rfl, fun h => absurd (Option.some.inj (hop.symm.trans h)) hn, fun _ => rfl,
      fun h => operandA_of_usesA (hop ▸ h), fun h => operandB_of_usesB (hop ▸ h)⟩

/-- ID of the unknown opcode writes no data field but the immediate. -/
theorem idexInv_unknown {b : Bool} {s : State} (hop : s.ifid.ir.op b = none) :
    IdexInv b (idexOf s .eop) := by
  simp [idexOf, Instr.opcode, hop, bubble, operandA, operandB, Instr.imm?]

theorem idexInv_decodedLatch {s1 s : State} (regs : registersInRange s.cfg.hasFp s.ifid.ir = true) :
    IdexInv s.cfg.hasFp (decodedLatch s1 s) := by
  unfold decodedLatch
  cases hd : decodeRecord s.cfg.hasFp s.ifid.ir with
  | instr i => exact idexInv_idexOf (op_of_decode hd) (imm_of_decode hd)
  | unknown => exact idexInv_unknown (decode_unknown.1 hd)
  | badRegister f v => simp [registersInRange, hd] at regs

theorem idexInv_bubble (b : Bool) : IdexInv b bubble := by simp [bubble]

/-! ## EXMEM -/

theorem exmemOf_ir (cfg : Config) (x : Latch) (o : Opcode) : (exmemOf cfg x o).ir = x.ir := by
  unfold exmemOf; split <;> rfl

/-- The record's opcode is a branch or jump exactly when EX tests a predicate of it (R163, R205). -/
theorem isBranch_eq_takenOf {b : Bool} {r : Record} (a : Word) :
    isBranch b r = (takenOf a ((r.op b).getD .EOP)).isSome := by
  unfold isBranch
  rcases r.op b with _ | o
  · rfl
  · cases o <;> rfl

theorem condWord_cases (t : Bool) : condWord t = 0#32 ∨ condWord t = 1#32 := by
  cases t <;> simp [condWord]

/-- What EX writes of a latch that ID has written. -/
theorem exmemInv_exmemOf {cfg : Config} {x : Latch} (h : IdexInv cfg.hasFp x) :
    ExmemInv cfg.hasFp (exmemOf cfg x ((x.ir.op cfg.hasFp).getD .EOP)) := by
  obtain ⟨-, -, -, -, -, -, hb⟩ := h
  have hbr := isBranch_eq_takenOf (b := cfg.hasFp) (r := x.ir) x.a
  unfold ExmemInv
  rw [exmemOf_ir, exmemOf_aluOutput, hbr]
  rcases ho : x.ir.op cfg.hasFp with _ | o
  · rw [ho] at hb
    simpa [exmemOf, bubble, aluOf, takenOf] using hb
  · by_cases hn : o = .NOP
    · subst hn
      simp [exmemOf, bubble, aluOf, takenOf]
    · rw [ho] at hb
      simp only [exmemOf, Option.getD_some, hn, if_false, Option.some.injEq, false_implies, bubble, true_and]
      refine ⟨hb, fun h => ?_, fun h => ?_, fun h => ?_⟩
      · rw [Option.isSome_eq_false_iff, Option.isNone_iff_eq_none] at h; rw [h]
      · obtain ⟨t, ht⟩ := Option.isSome_iff_exists.1 h
        rw [ht]; exact condWord_cases t
      · obtain rfl | h := h
        · rfl
        · cases h

theorem exmemInv_exBubble (b : Bool) : ExmemInv b exBubble := by
  simp [exBubble, bubble, isBranch]

/-! ## MEMWB -/

theorem memwbInv_bubble (b : Bool) : MemwbInv b bubble := by simp [bubble]

/-- What MEM writes: a load's word, a store's record alone, or the ALU value copied through. -/
theorem memwbInv_memAccess {b : Bool} {s t : State}
    (h : memAccess s ((s.exmem.ir.op b).getD .EOP) = .next t) : MemwbInv b t.memwb := by
  rcases ho : s.exmem.ir.op b with _ | o <;> rw [ho] at h
  · cases h
    simp [State.passAlu, bubble, ho, isLoad, isStore]
  · cases o
    case LW | LWS =>
      obtain ⟨-, rfl⟩ := loadAccess_eq_next h
      simp [State.loaded4, bubble, ho, isLoad]
    case SW | SWS =>
      obtain ⟨-, rfl⟩ := storeAccess_eq_next h
      simp [State.stored4, bubble, ho, isLoad]
    all_goals
      cases h
      simp [State.passAlu, bubble, ho, isLoad, isStore]

theorem memwbInv_memStage {s t : State} (h : memStage s = .next t) :
    MemwbInv s.cfg.hasFp t.memwb := by
  rw [memStage_eq] at h
  split at h
  · exact memwbInv_memAccess (by rwa [State.atStage_exmem, memProceed_exmem])
  · cases h

/-- `EXMEM` after EX. -/
theorem exStage_exmem {s u : State} (h : exStage (acquireUnit s) = .next u) :
    u.exmem = exmemOf s.cfg s.idex ((s.idex.ir.op s.cfg.hasFp).getD .EOP) := by
  obtain ⟨bp, bt, rfl, -⟩ := exStage_frame h
  obtain ⟨us, held, ha⟩ := acquireUnit_frame s
  rw [ha]

/-- The two latches that an unfrozen cycle writes before the handler. -/
theorem BackEnd.latchInv {s s1 s2 u : State} (back : BackEnd s s1 s2 u)
    (h : IdexInv s.cfg.hasFp s.idex) :
    ExmemInv s.cfg.hasFp u.exmem ∧ MemwbInv s.cfg.hasFp s2.memwb :=
  ⟨exStage_exmem back.ex ▸ exmemInv_exmemOf h, memwbInv_memStage back.mem⟩

/-- Settles O47: in each kind of cycle every latch is held, takes a bubble or takes what its stage
writes, and those three meet the invariant. -/
theorem stepKeepsLatchInv : Obligations.StepKeepsLatchInv := by
  intro s t ⟨hifid, hidex, hexmem, hmemwb⟩ h
  obtain ⟨hl, ⟨-, rfl⟩ | ⟨hhalt, -⟩⟩ := driverStep_cases h
  · exact ⟨hifid, hidex, hexmem, hmemwb⟩
  have hbubble : IfidInv bubble := by simp [bubble]
  cases cycleTo_of_step ⟨hl, hhalt⟩ h with
  | memWait wb wait => exact ⟨hifid, hidex, hexmem, memwbInv_bubble _⟩
  | exWait wb go mem busy =>
    have hw := memwbInv_memStage mem
    exact ⟨hifid, hidex, exmemInv_exBubble _, hw⟩
  | raw back kind =>
    obtain ⟨hx, hw⟩ := back.latchInv hidex
    exact ⟨hifid, idexInv_bubble _, hx, hw⟩
  | branch back kind regs | drain back kind regs eop =>
    obtain ⟨hx, hw⟩ := back.latchInv hidex
    exact ⟨hbubble, idexInv_decodedLatch regs, hx, hw⟩
  | fetch back kind regs eop fetched inRange =>
    obtain ⟨hx, hw⟩ := back.latchInv hidex
    exact ⟨⟨rfl, rfl, rfl, rfl, rfl, rfl⟩, idexInv_decodedLatch regs, hx, hw⟩

end Sys2Proof.Machine
end

section
/-! SUPPORT. The control state of the pipeline, invariant by invariant: what the hazard handler can make
of the stall state, what one cycle makes of the memory wait and of the functional units, and how an
`EOP` drains (45_pipeline_stages.md section 7, 46_hazard_unit.md section 2, 47_functional_units.md). -/

namespace Sys2Proof.Machine

/-! ## The stall state -/

/-- What the hazard handler can make of the stall state, and what it adds to `total_stalls`: one
constructor for each line of R206 to R209. -/
inductive StallTo (s : State) (frozen : Bool) : StallKind → Nat → Nat → Word → Prop
  | setRaw {n} (idle : s.stallKind = .NONE)
    (count : raw s.cfg.hasFp s.ifid.ir s.idex.ir s.exmem.ir s.memwb.ir = n) (pos : 0 < n) :
    StallTo s frozen .RAW n n 0#32
  | setBranch (idle : s.stallKind = .NONE)
    (count : raw s.cfg.hasFp s.ifid.ir s.idex.ir s.exmem.ir s.memwb.ir = 0)
    (br : isBranch s.cfg.hasFp s.ifid.ir = true) : StallTo s frozen .BRANCH 2 2 0#32
  | idle (idle : s.stallKind = .NONE)
    (count : raw s.cfg.hasFp s.ifid.ir s.idex.ir s.exmem.ir s.memwb.ir = 0)
    (br : isBranch s.cfg.hasFp s.ifid.ir = false) :
    StallTo s frozen .NONE s.stallRem s.stallSize 0#32
  | held (busy : s.stallKind ≠ .NONE) (left : frozen = true ∨ s.stallRem ≠ 0) :
    StallTo s frozen s.stallKind s.stallRem s.stallSize 0#32
  | releaseBranch (busy : s.stallKind ≠ .NONE) (go : frozen = false) (spent : s.stallRem = 0)
    (br : isBranch s.cfg.hasFp s.ifid.ir = true) :
    StallTo s frozen .BRANCH 2 2 (BitVec.ofNat 32 s.stallSize)
  | release (busy : s.stallKind ≠ .NONE) (go : frozen = false) (spent : s.stallRem = 0)
    (br : isBranch s.cfg.hasFp s.ifid.ir = false) :
    StallTo s frozen .NONE 0 0 (BitVec.ofNat 32 s.stallSize)

/-- The handler makes one of these of the stall state. -/
theorem stallTo (s : State) (frozen : Bool) :
    StallTo s frozen (hazardHandler s frozen s).stallKind (hazardHandler s frozen s).stallRem
      (hazardHandler s frozen s).stallSize (releasedStalls s frozen) := by
  by_cases h : s.stallKind = .NONE
  · have hrel : releasedStalls s frozen = 0#32 := if_neg fun h' => h'.1 h
    rw [hazardHandler_set h, setHazardStall_eq, hrel]
    split
    · next hn => exact .setRaw h rfl hn
    · next hn =>
      split
      · next hb => exact .setBranch h (by omega) hb
      · next hb => simpa [h] using StallTo.idle h (by omega) (by simpa using hb)
  by_cases h0 : frozen = true ∨ s.stallRem ≠ 0
  · have hrel : releasedStalls s frozen = 0#32 := by
      rw [releasedStalls, if_neg]; rintro ⟨-, h1, h2⟩; simp [h1, h2] at h0
    rw [hazardHandler_held h h0, hrel]
    exact .held h h0
  · obtain ⟨hf, hrem⟩ := not_or.1 h0
    simp only [Bool.not_eq_true, not_not] at hf hrem
    have hrel : releasedStalls s frozen = BitVec.ofNat 32 s.stallSize := if_pos ⟨h, hrem, hf⟩
    rw [hrel, hf, hazardHandler_release h hrem, releaseStall_eq]
    split
    · next hb => exact .releaseBranch h rfl hrem hb
    · next hb => exact .release h rfl hrem (by simpa using hb)

section Stall
variable {s : State} {frozen : Bool} {k : StallKind} {r z : Nat} {w : Word}

theorem srcs_ne_nil_of_raw {b : Bool} {c x m y : Record} (h : 0 < raw b c x m y) : srcs b c ≠ [] := by
  intro hs
  have hm (p : Record) : ¬ matchesSrc b p c = true := by simp [matchesSrc, hs]
  rw [raw_of_no_row (fun h => hm _ h.2) (fun h => hm _ h.2) (fun h => hm _ h.2)] at h
  exact absurd h (by decide)

/-- The stall state that the handler leaves is consistent with the record in `IFID`. -/
theorem StallTo.stallInv (h : StallTo s frozen k r z w) (hs : StallInv s) :
    (k = .NONE → r = 0 ∧ z = 0) ∧
    (k = .RAW → 1 ≤ z ∧ z ≤ 2 ∧ r ≤ z ∧ srcs s.cfg.hasFp s.ifid.ir ≠ []) ∧
    (k = .BRANCH → z = 2 ∧ r ≤ 2) := by
  cases h with
  | setRaw idle count pos =>
    refine ⟨nofun, fun _ => ⟨pos, count ▸ raw_le_two, le_rfl, srcs_ne_nil_of_raw (count ▸ pos)⟩, nofun⟩
  | setBranch idle count br => exact ⟨nofun, nofun, fun _ => ⟨rfl, le_rfl⟩⟩
  | idle idle count br => exact ⟨fun _ => hs.1 idle, nofun, nofun⟩
  | held busy left => exact hs
  | releaseBranch busy go spent br => exact ⟨nofun, nofun, fun _ => ⟨rfl, le_rfl⟩⟩
  | release busy go spent br => exact ⟨fun _ => ⟨rfl, rfl⟩, nofun, nofun⟩

/-- What the handler adds to `total_stalls` is what it takes from the stall cycles not yet added
(R207). -/
theorem StallTo.account (h : StallTo s frozen k r z w) (hs : StallInv s) :
    w + BitVec.ofNat 32 (z - r) = BitVec.ofNat 32 (s.stallSize - s.stallRem) := by
  cases h with
  | setRaw idle count pos | setBranch idle count br =>
    obtain ⟨hr, hz⟩ := hs.1 idle
    simp [hr, hz]
  | idle idle count br => simp
  | held busy left => simp
  | releaseBranch busy go spent br | release busy go spent br => simp [spent]

/-- A stall that the handler leaves in an unfrozen cycle has a cycle to go. -/
theorem StallTo.rem_pos (h : StallTo s false k r z w) (hk : k ≠ .NONE) : 1 ≤ r := by
  cases h with
  | setRaw idle count pos => exact pos
  | setBranch idle count br | releaseBranch busy go spent br => decide
  | idle idle count br | release busy go spent br => exact absurd rfl hk
  | held busy left => exact Nat.one_le_iff_ne_zero.2 (left.resolve_left (by decide))

/-- A record that reads no register and is no branch starts no stall. -/
theorem StallTo.stays_idle (h : StallTo s frozen k r z w) (idle : s.stallKind = .NONE)
    (hs : srcs s.cfg.hasFp s.ifid.ir = []) (hb : isBranch s.cfg.hasFp s.ifid.ir = false) :
    k = .NONE ∧ r = s.stallRem ∧ z = s.stallSize ∧ w = 0#32 := by
  cases h with
  | setRaw idle count pos => exact absurd hs (srcs_ne_nil_of_raw (count ▸ pos))
  | setBranch idle count br | releaseBranch busy go spent br => rw [hb] at br; cases br
  | idle idle count br => exact ⟨rfl, rfl, rfl, rfl⟩
  | held busy left | release busy go spent br => exact absurd idle busy

end Stall

/-! ## The memory wait -/

theorem isMem_of_memWaits {s : State} (h : memWaits s = true) :
    isMem s.cfg.hasFp s.exmem.ir = true := by
  simp only [memWaits, memTimed, Bool.and_eq_true] at h
  exact h.1.2

/-- MEM leaves the memory-latency state as the end of the wait does (R157). -/
theorem memStage_wait {s t : State} (h : memStage s = .next t) :
    t.memStall = (memProceed s).memStall ∧ t.memCnt = (memProceed s).memCnt := by
  obtain ⟨m, l, rfl, -⟩ := memStage_frame h
  exact ⟨rfl, rfl⟩

/-- A cycle that does not wait for memory leaves no count behind. -/
theorem memProceed_clears {s : State} (h : MemWaitInv s) (go : memWaits s = false) :
    (memProceed s).memStall = false ∧ (memProceed s).memCnt = 0 := by
  obtain ⟨hoff, hon⟩ := h
  unfold memProceed
  split
  · next ht => simpa [memWaits, ht] using go
  · next ht =>
    have hstall : s.memStall = false := by
      by_contra hs
      obtain ⟨hm, hc, -⟩ := hon (by simpa using hs)
      exact ht (by simp [memTimed, hm, Nat.zero_lt_of_lt hc])
    exact ⟨hstall, hoff hstall⟩

/-- A memory wait cycle leaves a count below the latency. -/
theorem memCountdown_lt {s : State} (h : MemWaitInv s) (wait : memWaits s = true) :
    memCountdown s - 1 < s.cfg.dmemLatency := by
  simp only [memWaits, memTimed, Bool.and_eq_true, decide_eq_true_eq] at wait
  obtain ⟨⟨hlat, -⟩, hpos⟩ := wait
  by_cases hs : s.memStall = true
  · have := (h.2 hs).2.1
    simp only [memCountdown, hs, if_true] at hpos ⊢
    omega
  · simp only [memCountdown, hs] at hpos ⊢
    simp only [Bool.false_eq_true, if_false] at hpos ⊢
    omega

/-- While a load or store is in `EXMEM` no unit is held. -/
theorem exUnit_of_isMem {s : State} (h : UnitInv s) (hm : isMem s.cfg.hasFp s.exmem.ir = true) :
    s.exUnit = none := by
  cases hu : s.exUnit with
  | none => rfl
  | some j =>
    have hx := (h.2.2 j hu).1
    rw [hx] at hm
    simp [isMem, exBubble, bubble] at hm

/-! ## The functional units -/

theorem busyOf_of_getElem? {us : List FunctionalUnit} {i : Nat} {u : FunctionalUnit}
    (h : us[i]? = some u) : busyOf us i = u.busy := by
  simp [busyOf, h]

@[simp] theorem busyOf_map_tick (us : List FunctionalUnit) (i : Nat) :
    busyOf (us.map FunctionalUnit.tick) i = busyOf us i - 1 := by
  cases h : us[i]? <;> simp [busyOf, h]

/-- The unit table while EX runs: what `UnitInv` says of it, but that a unit just taken may have a
latency of one cycle, and holds its record although it counts 0. -/
structure UnitsInEx (s : State) : Prop where
  idle : s.exUnit = none → ∀ u ∈ s.units, u.busy = 0
  records : ∀ u ∈ s.units, u.busy ≠ 0 → u.instruction = u.lastAccepted
  kind : ∀ j ∈ s.exUnit, unitClass s.cfg.hasFp s.idex.ir = (s.units[j]?).map FunctionalUnit.kind
  accepted : ∀ j ∈ s.exUnit, (s.units[j]?).map FunctionalUnit.lastAccepted = some s.idex.ir
  others : ∀ j ∈ s.exUnit, ∀ i < s.units.length, i ≠ j → busyOf s.units i = 0

theorem UnitsInEx.of_unitInv {s : State} (h : UnitInv s) : UnitsInEx s where
  idle := h.1
  records u hu hb := by rw [h.2.1 u hu, if_neg hb]
  kind j hj := (h.2.2 j hj).2.2.1
  accepted j hj := (h.2.2 j hj).2.2.2.1
  others j hj := (h.2.2 j hj).2.2.2.2

/-- A free unit found is of the kind asked for and counts 0. -/
theorem freeUnit_eq_some {need : UnitKind} {us : List FunctionalUnit} {j : Nat}
    (h : freeUnit need us = some j) : ∃ u, us[j]? = some u ∧ u.kind = need ∧ u.busy = 0 := by
  obtain ⟨hj, hp, -⟩ := List.findIdx?_eq_some_iff_getElem.1 h
  simp only [Bool.and_eq_true, beq_iff_eq] at hp
  exact ⟨us[j], List.getElem?_eq_getElem hj, hp⟩

/-- Taking a unit keeps the table in order: the unit taken is of the class and holds the record. -/
theorem UnitsInEx.acquire {s : State} (h : UnitsInEx s) : UnitsInEx (acquireUnit s) := by
  obtain hs | ⟨need, j, hclass, hnone, hfree, hs⟩ := acquireUnit_cases s
  · rw [hs]; exact h
  rw [hs]
  obtain ⟨u, hu, hk, -⟩ := freeUnit_eq_some hfree
  have hat : (occupy s.units j s.idex.ir)[j]? =
      some { u with busy := u.latency, instruction := s.idex.ir, lastAccepted := s.idex.ir } := by
    rw [occupy_getElem?, if_pos rfl, hu]; rfl
  have hother {i : Nat} (hi : i ≠ j) : (occupy s.units j s.idex.ir)[i]? = s.units[i]? := by
    rw [occupy_getElem?, if_neg (Ne.symm hi)]
  refine ⟨nofun, fun v hv hb => ?_, ?_, ?_, ?_⟩
  · obtain ⟨i, hi⟩ := List.mem_iff_getElem?.1 hv
    change (occupy s.units j s.idex.ir)[i]? = _ at hi
    by_cases hij : i = j
    · subst hij
      rw [hat] at hi
      cases hi
      rfl
    · rw [hother hij] at hi
      exact h.records v (List.mem_of_getElem? hi) hb
  · rintro _ ⟨⟩
    simp [hat, hclass, hk]
  · rintro _ ⟨⟩
    simp [hat]
  · rintro _ ⟨⟩ i hi hij
    change busyOf (occupy s.units j s.idex.ir) i = 0
    rw [busyOf, hother hij]
    cases hv : s.units[i]? with
    | none => rfl
    | some v => exact h.idle hnone v (List.mem_of_getElem? hv)

/-- At the end of a cycle every unit holds `NOP_REC` or the record it runs. -/
theorem UnitsInEx.tick_records {s : State} (h : UnitsInEx s) :
    ∀ u ∈ s.units.map FunctionalUnit.tick,
      u.instruction = if u.busy = 0 then nopRec else u.lastAccepted := by
  intro v hv
  obtain ⟨u, hu, rfl⟩ := List.mem_map.1 hv
  exact FunctionalUnit.tick_records (h.records u hu)

/-- With at most one cycle to go on the unit held, the end of the cycle frees every unit. -/
theorem UnitsInEx.tick_idle {s : State} (h : UnitsInEx s)
    (hb : ∀ j ∈ s.exUnit, busyOf s.units j ≤ 1) :
    ∀ u ∈ s.units.map FunctionalUnit.tick, u.busy = 0 := by
  intro v hv
  obtain ⟨u, hu, rfl⟩ := List.mem_map.1 hv
  rw [FunctionalUnit.tick_busy]
  cases hx : s.exUnit with
  | none => rw [h.idle hx u hu]
  | some j =>
    obtain ⟨i, hi⟩ := List.mem_iff_getElem?.1 hu
    have hbi := busyOf_of_getElem? hi
    by_cases hij : i = j
    · have := hb j hx
      rw [← hij, hbi] at this
      omega
    · have := h.others j hx i (List.getElem?_eq_some_iff.1 hi).1 hij
      omega

end Sys2Proof.Machine
end

section
/-! SUPPORT. One cycle keeps the control state consistent: the wait for a functional unit, the records
moving through the latches, the bubbles of a branch, the drain of an `EOP` and the account of cycles
(45_pipeline_stages.md section 7, 70_reset_and_hazards.md section 3). -/

namespace Sys2Proof.Machine

/-! ## The end of EX -/

/-- EX that is not done waits for a unit, or holds one with more than a cycle to go. -/
theorem exDone_eq_false {s : State} (h : exDone s = false) :
    unitClass s.cfg.hasFp s.idex.ir ≠ none ∧ ∀ j ∈ s.exUnit, 1 < busyOf s.units j := by
  unfold exDone at h
  split at h
  · cases h
  · next need hc =>
    refine ⟨by simp [hc], fun j hj => ?_⟩
    rw [Option.mem_def.1 hj] at h
    simpa using h

/-- EX that is done holds, for a record that needs a unit, one with at most a cycle to go. -/
theorem exDone_eq_true {s : State} (h : exDone s = true)
    (hc : unitClass s.cfg.hasFp s.idex.ir ≠ none) :
    ∃ j, s.exUnit = some j ∧ busyOf s.units j ≤ 1 := by
  unfold exDone at h
  split at h
  · next hn => exact absurd hn hc
  · split at h
    · cases h
    · next j hj => exact ⟨j, hj, by simpa using h⟩

/-- A record that holds a unit needs one. -/
theorem UnitsInEx.class_ne_none {s : State} (h : UnitsInEx s) {j : Nat} (hj : s.exUnit = some j) :
    unitClass s.cfg.hasFp s.idex.ir ≠ none := by
  rw [h.kind j hj]
  have := h.accepted j hj
  cases hu : s.units[j]? with
  | none => simp [hu] at this
  | some u => simp

/-- An EX wait cycle keeps the unit held, or leaves the record without one. -/
theorem UnitsInEx.unitInv_of_wait {s t : State} (h : UnitsInEx s) (busy : exDone s = false)
    (hc : t.cfg = s.cfg) (hi : t.idex = s.idex) (hx : t.exmem = exBubble)
    (hu : t.units = s.units.map FunctionalUnit.tick) (he : t.exUnit = s.exUnit) : UnitInv t := by
  obtain ⟨-, hbusy⟩ := exDone_eq_false busy
  unfold UnitInv
  rw [hc, hi, hx, hu, he]
  refine ⟨fun hn => h.tick_idle (by simp [hn]), h.tick_records, fun j hj => ⟨rfl, ?_, ?_, ?_, ?_⟩⟩
  · have := hbusy j hj
    rw [busyOf_map_tick]
    omega
  · rw [h.kind j hj, List.getElem?_map]
    cases s.units[j]? <;> rfl
  · rw [← h.accepted j hj, List.getElem?_map]
    cases s.units[j]? <;> rfl
  · intro i hi hij
    rw [busyOf_map_tick, h.others j hj i (by simpa using hi) hij]

/-- When EX is done no unit is held any more, and the end of the cycle frees every unit. -/
theorem UnitsInEx.unitInv_of_done {s t : State} (h : UnitsInEx s) (done : exDone s = true)
    (hu : t.units = s.units.map FunctionalUnit.tick) (he : t.exUnit = (releaseUnit s).exUnit) :
    UnitInv t := by
  have hnone : (releaseUnit s).exUnit = none := by
    unfold releaseUnit
    split
    · next hn =>
      cases hx : s.exUnit with
      | none => rfl
      | some j => exact absurd hn (h.class_ne_none hx)
    · rfl
  have hone : ∀ j ∈ s.exUnit, busyOf s.units j ≤ 1 := fun j hj => by
    obtain ⟨i, hi, hb⟩ := exDone_eq_true done (h.class_ne_none hj)
    rw [hi] at hj
    cases hj
    exact hb
  unfold UnitInv
  rw [hu, he, hnone]
  exact ⟨fun _ => h.tick_idle hone, h.tick_records, nofun⟩

/-! ## Records moving through the latches -/

theorem idexOf_ir (s : State) (i : Instr) : (idexOf s i).ir = s.ifid.ir := by
  unfold idexOf; split <;> rfl

@[simp] theorem decodedLatch_ir (s1 s : State) : (decodedLatch s1 s).ir = s.ifid.ir :=
  idexOf_ir ..

theorem decodedLatch_bubble {s1 s : State} (h : s.ifid = bubble) : decodedLatch s1 s = bubble := by
  have hi : Decoded.middle (decodeRecord s.cfg.hasFp s.ifid.ir) = .nop := by
    rw [h]; exact congrArg Decoded.middle (decode_nopRec _)
  rw [decodedLatch, hi, idexOf]
  simp [Instr.opcode, afterWb, h, bubble]

theorem exStage_bubble {s u : State} (h : exStage (acquireUnit s) = .next u) (hi : s.idex = bubble) :
    u.exmem = exBubble := by
  have ho : bubble.ir.op s.cfg.hasFp = some .NOP := nopRec_op _
  rw [exStage_exmem h, hi, ho]
  rfl

theorem exStage_ir {s u : State} (h : exStage (acquireUnit s) = .next u) :
    u.exmem.ir = s.idex.ir := by
  rw [exStage_exmem h, exmemOf_ir]

theorem memStage_ir {s t : State} (h : memStage s = .next t) : t.memwb.ir = s.exmem.ir := by
  obtain ⟨m, l, rfl, hl⟩ := memStage_frame h
  exact hl

theorem memStage_bubble {s t : State} (h : memStage s = .next t) (hx : s.exmem = exBubble) :
    t.memwb = exBubble := by
  have ho : s.exmem.ir.op s.cfg.hasFp = some .NOP := by rw [hx]; exact nopRec_op _
  rw [memStage_eq, ho] at h
  split at h
  · cases h
    simp [State.passAlu, memProceed_exmem, hx, exBubble, bubble]
  · cases h

/-- WB halts exactly at an `EOP` with no redirect pending (R156). -/
theorem wbStage_halted {s t : State} (h : wbStage s = .next t) :
    t.halted = (s.halted ||
      (decide (s.memwb.ir.op s.cfg.hasFp = some .EOP) && !s.branchPending)) := by
  obtain ⟨gp, fp, rfl⟩ := wbStage_frame h
  rfl

/-! ## The drain after an `EOP` -/

/-- Where the `EOP` that was fetched is, by the number of unfrozen cycles since: in one of the four
latches, with bubbles behind it, or gone from the pipeline. -/
inductive DrainAt (s : State) : Nat → Prop
  | ifid (here : isEop s s.ifid) (idex : ¬ isEop s s.idex) (exmem : ¬ isEop s s.exmem)
    (memwb : ¬ isEop s s.memwb) (runs : s.halted = false) : DrainAt s 0
  | idex (ifid : s.ifid = bubble) (here : isEop s s.idex) (exmem : ¬ isEop s s.exmem)
    (memwb : ¬ isEop s s.memwb) (runs : s.halted = false) : DrainAt s 1
  | exmem (ifid : s.ifid = bubble) (idex : s.idex = bubble) (here : isEop s s.exmem)
    (memwb : ¬ isEop s s.memwb) (runs : s.halted = false) : DrainAt s 2
  | memwb (ifid : s.ifid = bubble) (idex : s.idex = bubble) (exmem : s.exmem = exBubble)
    (here : isEop s s.memwb) (runs : s.halted = false) : DrainAt s 3
  | gone (ifid : s.ifid = bubble) (idex : s.idex = bubble) (exmem : s.exmem = exBubble)
    (memwb : s.memwb = exBubble) (halts : s.halted = true) : DrainAt s 4

theorem not_isEop_bubble (s : State) : ¬ isEop s bubble := by simp [bubble]

theorem not_isEop_exBubble (s : State) : ¬ isEop s exBubble := by simp [exBubble, bubble]

theorem drainDepth_of_drainAt {s : State} {d : Nat} (h : DrainAt s d) (he : s.eopFetched = true) :
    drainDepth s = d := by
  have hb := not_isEop_bubble s
  have hx := not_isEop_exBubble s
  unfold drainDepth
  rw [if_neg (by simp [he])]
  cases h with
  | ifid here idex exmem memwb runs => rw [if_pos here]
  | idex ifid here exmem memwb runs => rw [ifid, if_neg hb, if_pos here]
  | exmem ifid idex here memwb runs => rw [ifid, idex, if_neg hb, if_neg hb, if_pos here]
  | memwb ifid idex exmem here runs =>
    rw [ifid, idex, exmem, if_neg hb, if_neg hb, if_neg hx, if_pos here]
  | gone ifid idex exmem memwb halts =>
    rw [ifid, idex, exmem, memwb, if_neg hb, if_neg hb, if_neg hx, if_neg hx]

/-- The drain, read from the invariant. -/
theorem drainAt_of_eopInv {s : State} (h : EopInv s) (he : s.eopFetched = true) :
    DrainAt s (drainDepth s) := by
  obtain ⟨-, hdrain⟩ := h
  obtain ⟨-, -, hhalt, h0, hifid, h1, hidex, h2, hexmem, hmemwb⟩ := hdrain he
  have hruns (hd : drainDepth s ≠ 4) : s.halted = false := by
    rw [← Bool.not_eq_true]; exact fun hh => hd (hhalt.1 hh)
  have hd : drainDepth s = if isEop s s.ifid then 0 else if isEop s s.idex then 1
      else if isEop s s.exmem then 2 else if isEop s s.memwb then 3 else 4 := by
    unfold drainDepth
    rw [if_neg (by simp [he])]
  generalize hdd : drainDepth s = d at *
  split_ifs at hd with e0 e1 e2 e3 <;> subst hd
  · obtain ⟨hi, hx, hm⟩ := h0 e0
    exact .ifid e0 hi hx hm (hruns (by decide))
  · obtain ⟨hx, hm⟩ := h1 rfl
    exact .idex (hifid le_rfl) e1 hx hm (hruns (by decide))
  · exact .exmem (hifid (by decide)) (hidex le_rfl) e2 (h2 rfl) (hruns (by decide))
  · exact .memwb (hifid (by decide)) (hidex (by decide)) (hexmem le_rfl) e3 (hruns (by decide))
  · exact .gone (hifid (by decide)) (hidex (by decide)) (hexmem (by decide)) (hmemwb le_rfl)
      (hhalt.2 rfl)

/-- The invariant, put together from the drain. -/
theorem eopInv_of_drainAt {s : State} {d : Nat} (he : s.eopFetched = true)
    (hk : s.stallKind = .NONE) (hp : s.branchPending = false) (h : DrainAt s d) : EopInv s := by
  have hd := drainDepth_of_drainAt h he
  have hb := not_isEop_bubble s
  have hx := not_isEop_exBubble s
  refine ⟨fun h => absurd (he.symm.trans h) (by decide), fun _ => ?_⟩
  rw [hd]
  refine ⟨hk, hp, ?_⟩
  cases h with
  | ifid here idex exmem memwb runs => simp [idex, exmem, memwb, runs]
  | idex ifid here exmem memwb runs => simp [ifid, hb, exmem, memwb, runs]
  | exmem ifid idex here memwb runs => simp [ifid, idex, hb, memwb, runs]
  | memwb ifid idex exmem here runs => simp [ifid, idex, exmem, hb, runs]
  | gone ifid idex exmem memwb halts => simp [ifid, idex, exmem, memwb, hb, halts]

/-! ## The handler and the branch bubbles -/

section Branch
variable {s : State} {k : StallKind} {r z : Nat} {w : Word}

/-- Without a BRANCH stall there is no redirect pending and no branch in `IDEX`. -/
theorem no_branch_ahead (hb : BranchInv s) (hk : s.stallKind = .BRANCH → s.stallRem = 2) :
    s.branchPending = false ∧ isBranch s.cfg.hasFp s.idex.ir = false := by
  obtain ⟨hpend, hidex, -⟩ := hb
  refine ⟨Bool.eq_false_iff.2 fun h => ?_, Bool.eq_false_iff.2 fun h => ?_⟩
  · obtain ⟨h1, h2⟩ := hpend h
    exact absurd (h2.symm.trans (hk h1)) (by decide)
  · obtain ⟨h1, h2⟩ := hidex.1 h
    exact absurd (h2.symm.trans (hk h1)) (by decide)

/-- In a frozen cycle the handler moves no branch and starts at most the stall of the one in
`IFID`. -/
theorem StallTo.branchInv (h : StallTo s true k r z w) (hb : BranchInv s) :
    (s.branchPending = true → k = .BRANCH ∧ r = 0) ∧
    (isBranch s.cfg.hasFp s.idex.ir = true ↔ k = .BRANCH ∧ r = 1) ∧
    (k = .BRANCH ∧ r = 2 → isBranch s.cfg.hasFp s.ifid.ir = true) ∧
    (k = .BRANCH ∧ r ≤ 1 → s.ifid = bubble) ∧
    (k = .BRANCH ∧ r = 0 → s.idex = bubble) := by
  cases h with
  | held busy left => exact hb
  | setRaw idle count pos | setBranch idle count br | idle idle count br =>
    obtain ⟨hp, hi⟩ := no_branch_ahead hb (by simp [idle])
    simp_all
  | releaseBranch busy go spent br | release busy go spent br => cases go

/-- A RAW stall comes with no redirect pending and no branch in `IDEX`. -/
theorem StallTo.raw_no_branch (h : StallTo s false .RAW r z w) (hb : BranchInv s) :
    s.branchPending = false ∧ isBranch s.cfg.hasFp s.idex.ir = false := by
  have hk : s.stallKind ≠ .BRANCH := by
    generalize hk : StallKind.RAW = k at h
    cases h with
    | setRaw idle count pos => simp [idle]
    | held busy left => simp [← hk]
    | setBranch | idle | releaseBranch | release => cases hk
  exact no_branch_ahead hb fun h' => absurd h' hk

/-- A BRANCH stall in an unfrozen cycle either has its branch in `IFID`, with nothing of a branch ahead
of it, or has its branch in `IDEX` and a bubble in `IFID`. -/
theorem StallTo.branch_where (h : StallTo s false .BRANCH r z w) (hs : StallInv s)
    (hb : BranchInv s) :
    (r = 2 ∧ isBranch s.cfg.hasFp s.ifid.ir = true ∧ s.branchPending = false ∧
        isBranch s.cfg.hasFp s.idex.ir = false) ∨
      (r = 1 ∧ s.ifid = bubble) := by
  have ⟨_, _, hifid, hbub, _⟩ := hb
  generalize hk : StallKind.BRANCH = k at h
  cases h with
  | setBranch idle count br => exact .inl ⟨rfl, br, no_branch_ahead hb (by simp [idle])⟩
  | releaseBranch busy go spent br =>
    refine .inl ⟨rfl, br, no_branch_ahead hb fun hk => ?_⟩
    rw [hbub ⟨hk, by omega⟩] at br
    simp [isBranch, bubble] at br
  | held busy left =>
    obtain ⟨-, h2⟩ := hs.2.2 hk.symm
    have h0 : s.stallRem ≠ 0 := left.resolve_left (by decide)
    by_cases hr : s.stallRem = 2
    · exact .inl ⟨hr, hifid ⟨hk.symm, hr⟩, no_branch_ahead hb fun _ => hr⟩
    · exact .inr ⟨by omega, hbub ⟨hk.symm, by omega⟩⟩
  | setRaw | idle | release => cases hk

/-- No stall in an unfrozen cycle: no branch in `IFID`. -/
theorem StallTo.none_no_branch (h : StallTo s false .NONE r z w) :
    isBranch s.cfg.hasFp s.ifid.ir = false := by
  generalize hk : StallKind.NONE = k at h
  cases h with
  | idle idle count br | release busy go spent br => exact br
  | held busy left => exact absurd hk.symm busy
  | setRaw | setBranch | releaseBranch => cases hk

end Branch

/-- EX leaves the redirect alone but for a branch (R163). -/
theorem exStage_redirect {s u : State} (h : exStage (acquireUnit s) = .next u)
    (hb : isBranch s.cfg.hasFp s.idex.ir = false) :
    u.branchPending = s.branchPending ∧ u.branchTarget = s.branchTarget := by
  obtain ⟨us, held, ha⟩ := acquireUnit_frame s
  rw [ha] at h
  obtain ⟨bp, bt, rfl, hbr⟩ := exStage_frame h
  exact hbr hb

/-! ## Each invariant over one cycle -/

section Cycle
variable {s t : State}

theorem CycleTo.stallInv (h : CycleTo s t) (hs : StallInv s) : StallInv t := by
  cases h with
  | memWait wb wait => exact (stallTo s true).stallInv hs
  | exWait wb go mem busy => exact (stallTo s true).stallInv hs
  | raw back kind =>
    obtain ⟨-, hraw, -⟩ := (stallTo s false).stallInv hs
    obtain ⟨hz, hz2, hrz, hsrc⟩ := hraw kind
    refine ⟨fun hk => ?_, fun _ => ⟨hz, hz2, (Nat.sub_le ..).trans hrz, hsrc⟩, fun hk => ?_⟩
    · exact absurd (kind.symm.trans hk) (by decide)
    · exact absurd (kind.symm.trans hk) (by decide)
  | branch back kind regs =>
    obtain ⟨-, -, hbranch⟩ := (stallTo s false).stallInv hs
    obtain ⟨hz, hrz⟩ := hbranch kind
    refine ⟨fun hk => ?_, fun hk => ?_, fun _ => ⟨hz, (Nat.sub_le ..).trans hrz⟩⟩
    · exact absurd (kind.symm.trans hk) (by decide)
    · exact absurd (kind.symm.trans hk) (by decide)
  | drain back kind regs eop | fetch back kind regs eop fetched inRange =>
    obtain ⟨hnone, -, -⟩ := (stallTo s false).stallInv hs
    refine ⟨fun _ => hnone kind, fun hk => ?_, fun hk => ?_⟩
    · exact absurd (kind.symm.trans hk) (by decide)
    · exact absurd (kind.symm.trans hk) (by decide)

theorem CycleTo.memWaitInv (h : CycleTo s t) (hm : MemWaitInv s) (hu : UnitInv s) :
    MemWaitInv t := by
  have moved {s2 : State} (go : memWaits s = false) (mem : memStage s = .next s2) :
      s2.memStall = false ∧ s2.memCnt = 0 := by
    obtain ⟨h1, h2⟩ := memStage_wait mem
    rw [h1, h2]
    exact memProceed_clears hm go
  cases h with
  | memWait wb wait =>
    have hmem := isMem_of_memWaits wait
    have hnone := exUnit_of_isMem hu hmem
    exact ⟨nofun, fun _ => ⟨hmem, memCountdown_lt hm wait, hnone⟩⟩
  | exWait wb go mem busy =>
    obtain ⟨h1, h2⟩ := moved go mem
    exact ⟨fun _ => h2, fun h => absurd (h1.symm.trans h) (by decide)⟩
  | raw back | branch back | drain back | fetch back =>
    obtain ⟨h1, h2⟩ := moved back.go back.mem
    exact ⟨fun _ => h2, fun h => absurd (h1.symm.trans h) (by decide)⟩

/-- EX changes the unit held and nothing else of the units. -/
theorem exStage_units {s u : State} (h : exStage (acquireUnit s) = .next u) :
    u.units = (acquireUnit s).units ∧ u.exUnit = (releaseUnit (acquireUnit s)).exUnit := by
  obtain ⟨bp, bt, rfl, -⟩ := exStage_frame h
  obtain ⟨held, hr⟩ := releaseUnit_frame (acquireUnit s)
  rw [hr]
  exact ⟨rfl, rfl⟩

theorem acquireUnit_keeps (s : State) : (acquireUnit s).cfg = s.cfg ∧ (acquireUnit s).idex = s.idex := by
  obtain ⟨us, held, ha⟩ := acquireUnit_frame s
  rw [ha]
  exact ⟨rfl, rfl⟩

theorem CycleTo.unitInv (h : CycleTo s t) (hu : UnitInv s) : UnitInv t := by
  have hex : UnitsInEx (acquireUnit s) := (UnitsInEx.of_unitInv hu).acquire
  cases h with
  | memWait wb wait =>
    have hin := UnitsInEx.of_unitInv hu
    have hnone := exUnit_of_isMem hu (isMem_of_memWaits wait)
    have hidle := hin.tick_idle (by simp [hnone])
    exact ⟨fun _ => hidle, hin.tick_records, fun j hj => absurd (hnone.symm.trans hj) nofun⟩
  | exWait wb go mem busy =>
    obtain ⟨hc, hi⟩ := acquireUnit_keeps s
    exact hex.unitInv_of_wait busy hc.symm hi.symm rfl rfl rfl
  | raw back | branch back | drain back | fetch back =>
    obtain ⟨h1, h2⟩ := exStage_units back.ex
    exact hex.unitInv_of_done back.done (congrArg (List.map FunctionalUnit.tick) h1) h2

/-- With no branch in flight and no BRANCH stall there is nothing to hold of a branch. -/
theorem branchInv_of_no_branch (hp : t.branchPending = false)
    (hi : isBranch t.cfg.hasFp t.idex.ir = false) (hk : t.stallKind ≠ .BRANCH) : BranchInv t := by
  unfold BranchInv
  simp [hp, hi, hk]

theorem CycleTo.branchInv (h : CycleTo s t) (hs : StallInv s) (hb : BranchInv s) (he : EopInv s) :
    BranchInv t := by
  have hnone : isBranch s.cfg.hasFp nopRec = false := by simp [isBranch]
  cases h with
  | memWait wb wait => exact (stallTo s true).branchInv hb
  | exWait wb go mem busy => exact (stallTo s true).branchInv hb
  | @raw s1 s2 u back kind =>
    have hst := stallTo s false
    rw [kind] at hst
    obtain ⟨hp, hi⟩ := hst.raw_no_branch hb
    have hup : u.branchPending = false := (exStage_redirect back.ex hi).1.trans hp
    have hk : (hazardHandler s false s).stallKind ≠ .BRANCH := by simp [kind]
    exact branchInv_of_no_branch hup hnone hk
  | @branch s1 s2 u back kind regs =>
    have hst := stallTo s false
    rw [kind] at hst
    obtain ⟨hr, hbr, hp, hi⟩ | ⟨hr, hbub⟩ := hst.branch_where hs hb
    · have hup : u.branchPending = false := (exStage_redirect back.ex hi).1.trans hp
      have hrem : (hazardHandler s false s).stallRem - 1 = 1 := by rw [hr]
      have hdec : isBranch s.cfg.hasFp (decodedLatch s1 s).ir = true := decodedLatch_ir s1 s ▸ hbr
      exact ⟨fun h => absurd (hup.symm.trans h) (by decide),
        ⟨fun _ => ⟨kind, hrem⟩, fun _ => hdec⟩,
        fun h => absurd (hrem.symm.trans h.2) (by decide), fun _ => rfl,
        fun h => absurd (hrem.symm.trans h.2) (by decide)⟩
    · have hrem : (hazardHandler s false s).stallRem - 1 = 0 := by rw [hr]
      have hdec : decodedLatch s1 s = bubble := decodedLatch_bubble hbub
      have hdb : isBranch s.cfg.hasFp (decodedLatch s1 s).ir = false := by rw [hdec]; exact hnone
      exact ⟨fun _ => ⟨kind, hrem⟩,
        ⟨fun h => absurd (hdb.symm.trans h) (by decide),
          fun h => absurd (hrem.symm.trans h.2) (by decide)⟩,
        fun h => absurd (hrem.symm.trans h.2) (by decide), fun _ => rfl, fun _ => hdec⟩
  | @drain s1 s2 u back kind regs eop =>
    obtain ⟨hidle, hp, -⟩ := he.2 eop
    obtain ⟨-, hi⟩ := no_branch_ahead hb (by simp [hidle])
    have hup : u.branchPending = false := (exStage_redirect back.ex hi).1.trans hp
    have hst := stallTo s false
    rw [kind] at hst
    have hdb : isBranch s.cfg.hasFp (decodedLatch s1 s).ir = false :=
      decodedLatch_ir s1 s ▸ hst.none_no_branch
    have hk : (hazardHandler s false s).stallKind ≠ .BRANCH := by simp [kind]
    exact branchInv_of_no_branch hup hdb hk
  | @fetch s1 s2 u r back kind regs eop fetched inRange =>
    have hst := stallTo s false
    rw [kind] at hst
    have hdb : isBranch s.cfg.hasFp (decodedLatch s1 s).ir = false :=
      decodedLatch_ir s1 s ▸ hst.none_no_branch
    have hk : (hazardHandler s false s).stallKind ≠ .BRANCH := by simp [kind]
    exact branchInv_of_no_branch rfl hdb hk

/-! ### The drain -/

theorem isMem_eop {b : Bool} {r : Record} (h : isMem b r = true) : r.op b ≠ some .EOP := by
  intro ho; simp [isMem, ho] at h

theorem unitClass_eop {b : Bool} {r : Record} (h : unitClass b r ≠ none) :
    r.op b ≠ some .EOP ∧ r.op b ≠ some .NOP := by
  constructor <;> intro ho <;> simp [unitClass, ho] at h

/-- A machine that runs has not drained its `EOP`, and what follows it starts no stall. -/
theorem DrainAt.quiet {d : Nat} (h : DrainAt s d) :
    srcs s.cfg.hasFp s.ifid.ir = [] ∧ isBranch s.cfg.hasFp s.ifid.ir = false := by
  have bub : srcs s.cfg.hasFp bubble.ir = [] ∧ isBranch s.cfg.hasFp bubble.ir = false := by
    simp [bubble, srcs, isBranch]
  cases h with
  | ifid here => exact ⟨by simp [srcs, here], by simp [isBranch, here]⟩
  | idex ifid | exmem ifid | memwb ifid | gone ifid => rw [ifid]; exact bub

/-- WB of any record but an `EOP` leaves `halted` clear. -/
theorem wbStage_runs {s1 : State} (h : wbStage s = .next s1) (runs : s.halted = false)
    (hm : ¬ isEop s s.memwb) : s1.halted = false := by
  rw [wbStage_halted h]
  simp [runs, hm]

/-- A memory wait holds the `EOP` where it is. -/
theorem DrainAt.memWait {s1 : State} {d : Nat} (h : DrainAt s d) (runs : s.halted = false)
    (wb : wbStage s = .next s1) (wait : memWaits s = true) (hc : t.cfg = s.cfg)
    (hi : t.ifid = s.ifid) (hx : t.idex = s.idex) (hm : t.exmem = s.exmem) (hw : t.memwb = bubble)
    (hh : t.halted = s1.halted) : DrainAt t d := by
  have hmem := isMem_of_memWaits wait
  have hb : ¬ isEop t t.memwb := hw ▸ not_isEop_bubble t
  cases h with
  | ifid here idex exmem memwb runs =>
    exact .ifid (by rwa [isEop, hc, hi]) (by rwa [isEop, hc, hx]) (by rwa [isEop, hc, hm]) hb
      (hh.trans (wbStage_runs wb runs memwb))
  | idex ifid here exmem memwb runs =>
    exact .idex (hi.trans ifid) (by rwa [isEop, hc, hx]) (by rwa [isEop, hc, hm]) hb
      (hh.trans (wbStage_runs wb runs memwb))
  | exmem ifid idex here memwb runs => exact absurd here (isMem_eop hmem)
  | memwb ifid idex exmem here runs =>
    rw [exmem] at hmem
    simp [isMem, exBubble, bubble] at hmem
  | gone ifid idex exmem memwb halts => rw [runs] at halts; cases halts

/-- An EX wait holds the `EOP`, which can then only be in `IFID`. -/
theorem DrainAt.exWait {s1 : State} {d : Nat} (h : DrainAt s d)
    (wb : wbStage s = .next s1) (busy : exDone (acquireUnit s) = false) (hc : t.cfg = s.cfg)
    (hi : t.ifid = s.ifid) (hx : t.idex = s.idex) (hm : t.exmem = exBubble)
    (hw : t.memwb.ir = s.exmem.ir) (hh : t.halted = s1.halted) : DrainAt t d := by
  obtain ⟨hkc, hki⟩ := acquireUnit_keeps s
  have hclass : unitClass s.cfg.hasFp s.idex.ir ≠ none := hkc ▸ hki ▸ (exDone_eq_false busy).1
  obtain ⟨hneop, hnnop⟩ := unitClass_eop hclass
  cases h with
  | ifid here idex exmem memwb runs =>
    exact .ifid (by rwa [isEop, hc, hi]) (by rwa [isEop, hc, hx]) (hm ▸ not_isEop_exBubble t)
      (by rwa [isEop, hc, hw]) (hh.trans (wbStage_runs wb runs memwb))
  | idex ifid here => exact absurd here hneop
  | exmem ifid idex | memwb ifid idex | gone ifid idex =>
    rw [idex] at hnnop
    exact absurd (nopRec_op _) hnnop

/-- An unfrozen cycle moves the `EOP` by one latch. -/
theorem DrainAt.move {s1 s2 u : State} {d : Nat} (h : DrainAt s d) (runs : s.halted = false)
    (hp : s.branchPending = false) (back : BackEnd s s1 s2 u) (hc : t.cfg = s.cfg)
    (hi : t.ifid = bubble) (hx : t.idex = decodedLatch s1 s) (hm : t.exmem = u.exmem)
    (hw : t.memwb = s2.memwb) (hh : t.halted = s1.halted) : DrainAt t (d + 1) := by
  have hxir : t.idex.ir = s.ifid.ir := by rw [hx, decodedLatch_ir]
  have hmir : t.exmem.ir = s.idex.ir := by rw [hm, exStage_ir back.ex]
  have hwir : t.memwb.ir = s.exmem.ir := by rw [hw, memStage_ir back.mem]
  cases h with
  | ifid here idex exmem memwb runs =>
    exact .idex hi (by rwa [isEop, hc, hxir]) (by rwa [isEop, hc, hmir]) (by rwa [isEop, hc, hwir])
      (hh.trans (wbStage_runs back.wb runs memwb))
  | idex ifid here exmem memwb runs =>
    exact .exmem hi (hx.trans (decodedLatch_bubble ifid)) (by rwa [isEop, hc, hmir])
      (by rwa [isEop, hc, hwir]) (hh.trans (wbStage_runs back.wb runs memwb))
  | exmem ifid idex here memwb runs =>
    exact .memwb hi (hx.trans (decodedLatch_bubble ifid)) (hm.trans (exStage_bubble back.ex idex))
      (by rwa [isEop, hc, hwir]) (hh.trans (wbStage_runs back.wb runs memwb))
  | memwb ifid idex exmem here runs =>
    refine .gone hi (hx.trans (decodedLatch_bubble ifid)) (hm.trans (exStage_bubble back.ex idex))
      (hw.trans (memStage_bubble back.mem exmem)) (hh.trans ?_)
    rw [wbStage_halted back.wb]
    simp [here, hp]
  | gone ifid idex exmem memwb halts => rw [runs] at halts; cases halts

/-- Whether the cycle that starts in `s` moves the pipeline. -/
def moves (s : State) : Nat := if Unfrozen s then 1 else 0

theorem moves_of_memWaits (wait : memWaits s = true) : moves s = 0 :=
  if_neg fun hu => absurd (wait.symm.trans hu.1) (by decide)

theorem moves_of_exWaits (busy : exDone (acquireUnit s) = false) : moves s = 0 :=
  if_neg fun hu => absurd (busy.symm.trans hu.2) (by decide)

/-- After the `EOP` was fetched no stall is set and no redirect left, and the `EOP` moves on in every
unfrozen cycle. -/
theorem CycleTo.drains (h : CycleTo s t) (runs : s.halted = false) (hb : BranchInv s)
    (he : EopInv s) (hf : s.eopFetched = true) :
    t.eopFetched = true ∧ t.stallKind = .NONE ∧ t.branchPending = false ∧
      DrainAt t (drainDepth s + moves s) := by
  have hd := drainAt_of_eopInv he hf
  obtain ⟨hidle, hp, -⟩ := he.2 hf
  obtain ⟨hsrc, hbr⟩ := hd.quiet
  obtain ⟨hk, -⟩ := (stallTo s false).stays_idle hidle hsrc hbr
  obtain ⟨hkt, -⟩ := (stallTo s true).stays_idle hidle hsrc hbr
  cases h with
  | memWait wb wait =>
    rw [moves_of_memWaits wait]
    exact ⟨hf, hkt, hp, hd.memWait runs wb wait rfl rfl rfl rfl rfl rfl⟩
  | exWait wb go mem busy =>
    have hir := memStage_ir mem
    rw [moves_of_exWaits busy]
    exact ⟨hf, hkt, hp, hd.exWait wb busy rfl rfl rfl rfl hir rfl⟩
  | drain back kind regs eop =>
    have hm : moves s = 1 := if_pos ⟨back.go, back.done⟩
    obtain ⟨-, hi⟩ := no_branch_ahead hb (by simp [hidle])
    have hup := (exStage_redirect back.ex hi).1.trans hp
    rw [hm]
    exact ⟨hf, kind, hup, hd.move runs hp back rfl rfl rfl rfl rfl rfl⟩
  | raw back kind | branch back kind => rw [hk] at kind; cases kind
  | fetch back kind regs eop => rw [hf] at eop; cases eop

theorem not_isEop_of_ir {l l' : Latch} (h : l.ir = l'.ir) (hn : ¬ isEop s l') : ¬ isEop s l := by
  rwa [isEop, h]

/-- Before an `EOP` is fetched there is none in the pipeline, and one that is fetched starts the
drain. -/
theorem CycleTo.eopInv_of_not_fetched (h : CycleTo s t) (he : EopInv s)
    (hf : s.eopFetched = false) : EopInv t ∧ drainDepth t = 0 := by
  obtain ⟨hi, hx, hm, hw, runs⟩ := he.1 hf
  have none_yet (hc : t.cfg = s.cfg) (he : t.eopFetched = false) (h1 : ¬ isEop s t.ifid)
      (h2 : ¬ isEop s t.idex) (h3 : ¬ isEop s t.exmem) (h4 : ¬ isEop s t.memwb)
      (h5 : t.halted = false) : EopInv t ∧ drainDepth t = 0 := by
    unfold isEop at h1 h2 h3 h4
    rw [← hc] at h1 h2 h3 h4
    exact ⟨⟨fun _ => ⟨h1, h2, h3, h4, h5⟩, fun h => absurd (he.symm.trans h) (by decide)⟩,
      if_pos he⟩
  have hb := not_isEop_bubble s
  have hxb := not_isEop_exBubble s
  cases h with
  | memWait wb wait =>
    have h5 := wbStage_runs wb runs hw
    exact none_yet rfl hf hi hx hm hb h5
  | exWait wb go mem busy =>
    have h4 := not_isEop_of_ir (memStage_ir mem) hm
    have h5 := wbStage_runs wb runs hw
    exact none_yet rfl hf hi hx hxb h4 h5
  | @raw s1 s2 u back kind =>
    have h3 : ¬ isEop s u.exmem := not_isEop_of_ir (exStage_ir back.ex) hx
    have h4 : ¬ isEop s s2.memwb := not_isEop_of_ir (memStage_ir back.mem) hm
    have h5 := wbStage_runs back.wb runs hw
    exact none_yet rfl hf hi hb h3 h4 h5
  | @branch s1 s2 u back kind regs =>
    have h2 : ¬ isEop s (decodedLatch s1 s) := not_isEop_of_ir (decodedLatch_ir s1 s) hi
    have h3 : ¬ isEop s u.exmem := not_isEop_of_ir (exStage_ir back.ex) hx
    have h4 : ¬ isEop s s2.memwb := not_isEop_of_ir (memStage_ir back.mem) hm
    have h5 := wbStage_runs back.wb runs hw
    exact none_yet rfl hf hb h2 h3 h4 h5
  | drain back kind regs eop => rw [hf] at eop; cases eop
  | @fetch s1 s2 u r back kind regs eop fetched inRange =>
    have h2 : ¬ isEop s (decodedLatch s1 s) := not_isEop_of_ir (decodedLatch_ir s1 s) hi
    have h3 : ¬ isEop s u.exmem := not_isEop_of_ir (exStage_ir back.ex) hx
    have h4 : ¬ isEop s s2.memwb := not_isEop_of_ir (memStage_ir back.mem) hm
    have h5 := wbStage_runs back.wb runs hw
    by_cases hr : r.op s.cfg.hasFp = some .EOP
    · have heop : (s.eopFetched || decide (r.op s.cfg.hasFp = some .EOP)) = true := by simp [hr]
      suffices hd : DrainAt _ 0 from
        ⟨eopInv_of_drainAt heop kind rfl hd, drainDepth_of_drainAt hd heop⟩
      exact .ifid hr h2 h3 h4 h5
    · have heop : (s.eopFetched || decide (r.op s.cfg.hasFp = some .EOP)) = false := by
        simp [hr, hf]
      exact none_yet rfl heop hr h2 h3 h4 h5

theorem CycleTo.eopInv (h : CycleTo s t) (runs : s.halted = false) (hb : BranchInv s)
    (he : EopInv s) : EopInv t := by
  by_cases hf : s.eopFetched = true
  · obtain ⟨h1, h2, h3, h4⟩ := h.drains runs hb he hf
    exact eopInv_of_drainAt h1 h2 h3 h4
  · exact (h.eopInv_of_not_fetched he (by simpa using hf)).1

/-! ### The account of cycles -/

/-- The drain moves by one in an unfrozen cycle after the `EOP`, and stands otherwise. -/
theorem CycleTo.drainDepth_eq (h : CycleTo s t) (runs : s.halted = false) (hb : BranchInv s)
    (he : EopInv s) :
    drainDepth t = if s.eopFetched = true then drainDepth s + moves s else drainDepth s := by
  split
  · next hf =>
    obtain ⟨h1, -, -, h4⟩ := h.drains runs hb he hf
    exact drainDepth_of_drainAt h4 h1
  · next hf =>
    rw [(h.eopInv_of_not_fetched he (by simpa using hf)).2]
    exact (if_pos (by simpa using hf)).symm

/-- A stall is counted down by the cycle that spends it. -/
theorem ofNat_sub_pred {z r : Nat} (h1 : 1 ≤ r) (h2 : r ≤ z) :
    BitVec.ofNat 32 (z - (r - 1)) = BitVec.ofNat 32 (z - r) + 1#32 := by
  rw [show z - (r - 1) = z - r + 1 by omega, BitVec.ofNat_add]

/-- The count of an unfrozen stalled cycle: the stall cycle it spends is not yet in `total_stalls`. -/
theorem stalled_account (hs : StallInv s)
    (hk : (hazardHandler s false s).stallKind ≠ .NONE) :
    releasedStalls s false + BitVec.ofNat 32 ((hazardHandler s false s).stallSize -
        ((hazardHandler s false s).stallRem - 1)) =
      BitVec.ofNat 32 (s.stallSize - s.stallRem) + 1#32 := by
  have hst := stallTo s false
  have hle : (hazardHandler s false s).stallRem ≤ (hazardHandler s false s).stallSize := by
    obtain ⟨hn, hr, hb⟩ := hst.stallInv hs
    cases h : (hazardHandler s false s).stallKind with
    | NONE => exact absurd h hk
    | RAW => exact (hr h).2.2.1
    | BRANCH => rw [(hb h).1]; exact (hb h).2
  rw [ofNat_sub_pred (hst.rem_pos hk) hle, ← hst.account hs, BitVec.add_assoc]

theorem CycleTo.accountInv (h : CycleTo s t) (runs : s.halted = false) (hs : StallInv s)
    (hb : BranchInv s) (he : EopInv s) (ha : AccountInv s) : AccountInv t := by
  have hdepth := h.drainDepth_eq runs hb he
  obtain ⟨hcycle, hinst⟩ := ha
  have ⟨hnot, hyes⟩ := he
  have hfrozen := (stallTo s true).account hs
  have hgo := (stallTo s false).account hs
  rw [releasedStalls_frozen, BitVec.zero_add] at hfrozen
  have frozen : s.cycle + 1#32 = s.fetchedCount + (s.totalStalls + 1#32) +
      BitVec.ofNat 32 ((hazardHandler s true s).stallSize - (hazardHandler s true s).stallRem) +
      BitVec.ofNat 32 (drainDepth s) := by
    linear_combination hcycle - hfrozen
  unfold AccountInv
  rw [hdepth]
  cases h with
  | memWait wb wait =>
    rw [moves_of_memWaits wait, Nat.add_zero, ite_self]
    exact ⟨frozen, hinst⟩
  | exWait wb go mem busy =>
    rw [moves_of_exWaits busy, Nat.add_zero, ite_self]
    exact ⟨frozen, hinst⟩
  | raw back kind | branch back kind regs =>
    have hf : ¬ s.eopFetched = true := fun hf => by
      have hd := drainAt_of_eopInv he hf
      obtain ⟨hk, -⟩ := (stallTo s false).stays_idle (hyes hf).1 hd.quiet.1 hd.quiet.2
      rw [hk] at kind
      cases kind
    have hst := stalled_account hs (by rw [kind]; decide)
    rw [if_neg hf]
    refine ⟨?_, hinst⟩
    change s.cycle + 1#32 = s.fetchedCount + (s.totalStalls + releasedStalls s false) +
      BitVec.ofNat 32 ((hazardHandler s false s).stallSize -
        ((hazardHandler s false s).stallRem - 1)) + _
    linear_combination hcycle - hst
  | drain back kind regs eop =>
    have hm : moves s = 1 := if_pos ⟨back.go, back.done⟩
    rw [if_pos eop, hm, BitVec.ofNat_add]
    refine ⟨?_, hinst⟩
    change s.cycle + 1#32 = s.fetchedCount + (s.totalStalls + releasedStalls s false) +
      BitVec.ofNat 32 ((hazardHandler s false s).stallSize - (hazardHandler s false s).stallRem) + _
    linear_combination hcycle - hgo
  | @fetch s1 s2 u r back kind regs eop fetched inRange =>
    have hf : ¬ s.eopFetched = true := by simp [eop]
    rw [if_neg hf]
    refine ⟨?_, ?_⟩
    · change s.cycle + 1#32 = s.fetchedCount + 1#32 + (s.totalStalls + releasedStalls s false) +
        BitVec.ofNat 32 ((hazardHandler s false s).stallSize - (hazardHandler s false s).stallRem) + _
      linear_combination hcycle - hgo
    · change s.fetchedCount + 1#32 = (if r.op s.cfg.hasFp = some .EOP then s.instCount
          else s.instCount + 1#32) +
        if (s.eopFetched || decide (r.op s.cfg.hasFp = some .EOP)) = true then 1#32 else 0#32
      rw [hinst, eop]
      by_cases hr : r.op s.cfg.hasFp = some .EOP <;> simp [hr]

end Cycle

/-- Settles O48: each of the six invariants over each kind of cycle, by the lemma of that invariant; a
halted machine stays as it is. -/
theorem stepKeepsPipelineInv : Obligations.StepKeepsPipelineInv := by
  intro s t hinv h
  have ⟨hs, hb, hm, hu, he, ha⟩ := hinv
  obtain ⟨hl, ⟨-, rfl⟩ | ⟨runs, -⟩⟩ := driverStep_cases h
  · exact hinv
  have hc := cycleTo_of_step ⟨hl, runs⟩ h
  exact ⟨hc.stallInv hs, hc.branchInv hs hb he, hc.memWaitInv hm hu, hc.unitInv hu,
    hc.eopInv runs hb he, hc.accountInv runs hs hb he ha⟩

end Sys2Proof.Machine
end

section
/-! SUPPORT. Data memory over a cycle, and the state after reset and after a load (10_state.md sections 3
and 10, 20_memory.md, 70_reset_and_hazards.md section 1). -/

namespace Sys2Proof.Machine

/-! ## The canonical form -/

/-- Two memories in canonical form above the same bound that read alike are the same data. -/
theorem Memory.ext_above {m m' : Memory} : ∀ {lo : Option Nat}, Memory.wfAbove lo m = true →
    Memory.wfAbove lo m' = true → (∀ a, m.read a = m'.read a) → m = m' := by
  induction m generalizing m' with
  | nil =>
    intro lo _ h' hr
    cases m' with
    | nil => rfl
    | cons c m' =>
      obtain ⟨k, b⟩ := c
      have hk := hr k
      rw [Memory.read_cons, if_pos rfl] at hk
      exact absurd hk.symm ((Memory.wfAbove_cons ..).1 h').2.1
  | cons c m ih =>
    obtain ⟨k, b⟩ := c
    intro lo h h' hr
    obtain ⟨-, hb, hm⟩ := (Memory.wfAbove_cons ..).1 h
    cases m' with
    | nil =>
      have hk := hr k
      rw [Memory.read_cons, if_pos rfl] at hk
      exact absurd hk hb
    | cons c' m' =>
      obtain ⟨k', b'⟩ := c'
      obtain ⟨-, hb', hm'⟩ := (Memory.wfAbove_cons ..).1 h'
      have hkk : k = k' := by
        rcases Nat.lt_trichotomy k k' with hlt | heq | hlt
        · have hk := hr k
          rw [Memory.read_cons, if_pos rfl, Memory.read_cons, if_neg (by omega),
            Memory.read_below hm' hlt.le] at hk
          exact absurd hk hb
        · exact heq
        · have hk := hr k'
          rw [Memory.read_cons, if_neg (by omega), Memory.read_below hm hlt.le, Memory.read_cons,
            if_pos rfl] at hk
          exact absurd hk.symm hb'
      subst hkk
      have hbb : b = b' := by simpa [Memory.read_cons] using hr k
      have htail (a : Nat) : Memory.read m a = Memory.read m' a := by
        by_cases ha : a ≤ k
        · rw [Memory.read_below hm ha, Memory.read_below hm' ha]
        · simpa [Memory.read_cons, show k ≠ a by omega] using hr a
      rw [hbb, ih hm hm' htail]

/-- Settles O7: `Memory.ext_above` with no bound. -/
theorem memoriesThatReadAlikeAreEqual : Obligations.MemoriesThatReadAlikeAreEqual :=
  fun _ _ h h' hr => Memory.ext_above h h' hr

/-! ## Data memory over a cycle -/

theorem memProceed_dmem (s : State) : (memProceed s).dmem = s.dmem := by
  unfold memProceed; split <;> rfl

/-- MEM of a store puts its word at its address, which is in data memory (20_memory.md R63, R66). -/
theorem memStage_store {s t : State} (h : memStage s = .next t)
    (hs : isStore (s.exmem.ir.op s.cfg.hasFp) = true) :
    inDataMemory s.cfg s.exmem.aluOutput = true ∧
      t.dmem = s.dmem.writeWord s.exmem.aluOutput.toNat s.exmem.b := by
  have hacc (u : State) : memAccess u ((s.exmem.ir.op s.cfg.hasFp).getD .EOP) = u.storeAccess := by
    simp only [isStore, Bool.or_eq_true, beq_iff_eq] at hs
    obtain hs | hs := hs <;> rw [hs] <;> rfl
  rw [memStage_eq, hacc] at h
  split at h
  · obtain ⟨hr, rfl⟩ := storeAccess_eq_next h
    simpa [memProceed_exmem, memProceed_cfg, memProceed_dmem, State.stored4] using hr
  · cases h

/-- MEM of any other record leaves data memory as it is. -/
theorem memStage_no_store {s t : State} (h : memStage s = .next t)
    (hs : isStore (s.exmem.ir.op s.cfg.hasFp) = false) : t.dmem = s.dmem := by
  rw [memStage_eq] at h
  split at h
  · rcases ho : s.exmem.ir.op s.cfg.hasFp with _ | o <;> rw [ho] at h hs
    · cases h
      exact memProceed_dmem s
    · cases o
      case LW | LWS =>
        obtain ⟨-, rfl⟩ := loadAccess_eq_next h
        exact memProceed_dmem s
      case SW | SWS => cases hs
      all_goals
        cases h
        exact memProceed_dmem s
  · cases h

/-- A store keeps data memory canonical and inside its address space. -/
theorem memoryInv_writeWord {cfg : Config} {m : Memory} {a v : Word}
    (h : m.wf = true ∧ ∀ c ∈ m, c.1 < cfg.dmemSize) (hr : inDataMemory cfg a = true) :
    (m.writeWord a.toNat v).wf = true ∧ ∀ c ∈ m.writeWord a.toNat v, c.1 < cfg.dmemSize := by
  refine ⟨Memory.writeWord_wf h.1 .., fun c hc => ?_⟩
  simp only [inDataMemory, decide_eq_true_eq] at hr
  obtain hc | hc := Memory.mem_writeWord hc
  · exact h.2 c hc
  · omega

theorem memoryInv_memStage {s t : State} (hm : MemoryInv s) (h : memStage s = .next t) :
    t.dmem.wf = true ∧ ∀ c ∈ t.dmem, c.1 < s.cfg.dmemSize := by
  cases hs : isStore (s.exmem.ir.op s.cfg.hasFp) with
  | true =>
    obtain ⟨hr, hd⟩ := memStage_store h hs
    rw [hd]
    exact memoryInv_writeWord hm hr
  | false => rwa [memStage_no_store h hs]

/-- What a cycle leaves of data memory: MEM's, unless it waits. -/
theorem CycleTo.dmem_eq {s t : State} (h : CycleTo s t) :
    (memWaits s = true ∧ t.dmem = s.dmem) ∨
      (memWaits s = false ∧ ∃ s2, memStage s = .next s2 ∧ t.dmem = s2.dmem) := by
  cases h with
  | memWait wb wait => exact .inl ⟨wait, rfl⟩
  | exWait wb go mem busy => exact .inr ⟨go, _, mem, rfl⟩
  | raw back | branch back | drain back | fetch back => exact .inr ⟨back.go, _, back.mem, rfl⟩

theorem CycleTo.cfg_eq {s t : State} (h : CycleTo s t) : t.cfg = s.cfg := by
  cases h <;> rfl

/-- Settles O8: only MEM changes data memory, and a store keeps it in order. -/
theorem stepKeepsMemoryInv : Obligations.StepKeepsMemoryInv := by
  intro s t hm h
  obtain ⟨hl, ⟨-, rfl⟩ | ⟨runs, -⟩⟩ := driverStep_cases h
  · exact hm
  have hc := cycleTo_of_step ⟨hl, runs⟩ h
  unfold MemoryInv
  rw [hc.cfg_eq]
  obtain ⟨-, hd⟩ | ⟨-, s2, hmem, hd⟩ := hc.dmem_eq
  · rwa [hd]
  · rw [hd]
    exact memoryInv_memStage hm hmem

/-- Settles O42: the bytes of the access by `memStage_store`, and no other kind of cycle changes data
memory. -/
theorem dataMemoryChangesOnlyByStores : Obligations.DataMemoryChangesOnlyByStores := by
  intro s t hrun h
  obtain ⟨hw, hd⟩ | ⟨hw, s2, hmem, hd⟩ := (cycleTo_of_step hrun h).dmem_eq
  · exact ⟨fun h => by simp [hw] at h, fun _ => hd⟩
  · refine ⟨fun ⟨_, hs⟩ => ?_, fun hs => ?_⟩
    · obtain ⟨-, hd2⟩ := memStage_store hmem hs
      rw [hd, hd2]
      exact ⟨fun hm => Memory.readWord_writeWord hm.1 .., fun x hx =>
        Memory.read_writeWord_outside hx ..⟩
    · have hs : isStore (s.exmem.ir.op s.cfg.hasFp) = false := by simpa [hw] using hs
      rw [hd, memStage_no_store hmem hs]

/-! ## Reset -/

/-- Settles O9: the table of 10_state.md R45, each row by definition. -/
theorem resetValues : Obligations.ResetValues := by
  intro s
  refine ⟨fun r => ⟨?_, ?_⟩, fun _ => rfl, rfl, rfl, rfl, rfl, rfl, rfl, rfl, rfl, rfl, rfl, rfl, rfl, rfl,
    rfl, rfl, rfl, rfl, rfl, rfl, rfl, rfl, rfl, rfl, ?_, fun u hu => ?_⟩
  · simp [State.readGp, State.resetMachine, State.resetWith]
  · simp [State.readFp, State.resetMachine, State.resetWith]
  · simp [State.resetMachine, State.resetWith, freshUnit]
  · obtain ⟨v, -, rfl⟩ := List.mem_map.1 hu
    exact ⟨rfl, rfl, rfl⟩

/-- The state after reset with a program placed and the registers and data memory seeded. -/
def seeded (cfg : Config) (us : List FunctionalUnit) (prog : List Record) (base pc : Word)
    (loaded : Bool) (gp fp : Vector Word 32) (dmem : Memory) : State :=
  { State.resetWith cfg us with
    imem := prog, base := base, pc := pc, loaded := loaded, gp := gp, fp := fp, dmem := dmem }

/-- An empty pipeline with nothing stalled, waiting, busy or fetched meets the invariants, whatever
was placed and seeded. -/
theorem seeded_invariants {cfg : Config} (us : List FunctionalUnit) {prog : List Record}
    (hprog : prog.all (registersInRange cfg.hasFp) = true) (base pc : Word) (loaded : Bool)
    (gp fp : Vector Word 32) (dmem : Memory) :
    LatchInv (seeded cfg us prog base pc loaded gp fp dmem) ∧
      RegistersInv (seeded cfg us prog base pc loaded gp fp dmem) ∧
      PipelineInv (seeded cfg us prog base pc loaded gp fp dmem) := by
  have hbub : registersInRange cfg.hasFp bubble.ir = true := by simp [registersInRange, bubble]
  have hbr : isBranch cfg.hasFp bubble.ir = false := by simp [isBranch, bubble]
  have hexmem : ExmemInv cfg.hasFp bubble := by simp [bubble, isBranch]
  have heop (s : State) := not_isEop_bubble s
  have hidle : ∀ u ∈ us.map fun u => freshUnit u.kind u.latency,
      u.busy = 0 ∧ u.instruction = nopRec := fun u hu => by
    obtain ⟨v, -, rfl⟩ := List.mem_map.1 hu
    exact ⟨rfl, rfl⟩
  refine ⟨⟨by simp [seeded, State.resetWith, bubble], idexInv_bubble _, hexmem, memwbInv_bubble _⟩,
    ⟨hprog, hbub, hbub, hbub, hbub⟩, ⟨fun _ => ⟨rfl, rfl⟩, nofun, nofun⟩,
    branchInv_of_no_branch rfl hbr nofun, ⟨fun _ => rfl, nofun⟩,
    ⟨fun _ u hu => (hidle u hu).1, fun u hu => ?_, nofun⟩,
    ⟨fun _ => ⟨heop _, heop _, heop _, heop _, rfl⟩, nofun⟩, ⟨rfl, rfl⟩⟩
  rw [(hidle u hu).1, (hidle u hu).2, if_pos rfl]

/-- Settles O10: `seeded_invariants` with nothing placed. -/
theorem resetMeetsInvariants : Obligations.ResetMeetsInvariants :=
  ⟨⟨rfl, nofun⟩, seeded_invariants initialUnits (cfg := Config.initial) (prog := []) rfl undef undef
    false (Vector.replicate 32 undef) (Vector.replicate 32 undef) []⟩

/-- Settles O11: `seeded_invariants` with the program that was loaded. -/
theorem freshLoadMeetsInvariants : Obligations.FreshLoadMeetsInvariants := by
  rintro s ⟨cfg, us, prog, base, gp, fp, dmem, hprog, rfl⟩
  exact seeded_invariants us hprog base base true gp fp dmem

end Sys2Proof.Machine
end

section
/-! SUPPORT. The instructions stage by stage, each statement a case of the equations of `exec`
(40_integer_alu.md to 44_eop_nop_unknown.md). -/

namespace Sys2Proof.Machine

/-! ## IF -/

theorem opcode_eq_eop {i : Instr} : i.opcode = .EOP ↔ i = .eop := by
  cases i <;> simp [Instr.opcode]

/-- Settles O12: `exec_IF`, with the one instruction of opcode `EOP`. -/
theorem fetchCountsInstruction : Obligations.FetchCountsInstruction := by
  intro i s h
  simp only [exec_IF h, opcode_eq_eop]
  rfl

/-! ## Integer arithmetic -/

/-- An instruction with no floating-point opcode exists in every variant. -/
theorem fpOk_of_needsFp_false {s : State} {i : Instr} (h : i.opcode.needsFp = false) : fpOk s i :=
  fun h' => absurd (h.symm.trans h') (by decide)

/-- Settles O13: the equations of `exec` for each of the three. -/
theorem integerRegisterRegister : Obligations.IntegerRegisterRegister := by
  intro rd rs rt i f s hi
  simp only [List.mem_cons, Prod.mk.injEq, List.not_mem_nil, or_false] at hi
  obtain ⟨rfl, rfl⟩ | ⟨rfl, rfl⟩ | ⟨rfl, rfl⟩ := hi
  all_goals
    exact ⟨fun h => exec_ID h (fpOk_of_needsFp_false rfl),
      fun h => exec_EX h (fpOk_of_needsFp_false rfl),
      fun h => exec_MEM h (fpOk_of_needsFp_false rfl),
      fun h => exec_WB h (fpOk_of_needsFp_false rfl)⟩

/-- Settles O15: the equations of `exec` for each of the two. -/
theorem integerRegisterImmediate : Obligations.IntegerRegisterImmediate := by
  intro rd rs imm i f s hi
  simp only [List.mem_cons, Prod.mk.injEq, List.not_mem_nil, or_false] at hi
  obtain ⟨rfl, rfl⟩ | ⟨rfl, rfl⟩ := hi
  all_goals
    exact ⟨fun h => exec_ID h (fpOk_of_needsFp_false rfl),
      fun h => exec_EX h (fpOk_of_needsFp_false rfl),
      fun h => exec_MEM h (fpOk_of_needsFp_false rfl),
      fun h => exec_WB h (fpOk_of_needsFp_false rfl)⟩

/-! ## Loads and stores -/

theorem inDataMemory_iff {cfg : Config} {a : Word} :
    inDataMemory cfg a = true ↔ a.toNat + 3 < cfg.dmemSize := by
  simp [inDataMemory]

theorem inDataMemory_eq_false {cfg : Config} {a : Word} :
    inDataMemory cfg a = false ↔ cfg.dmemSize ≤ a.toNat + 3 := by
  simp [inDataMemory]

theorem loadAccess_of_inRange {s : State} (h : inDataMemory s.cfg s.exmem.aluOutput = true) :
    s.loadAccess = .next (s.loaded4 (s.dmem.readWord s.exmem.aluOutput.toNat)) := if_pos h

theorem loadAccess_of_outside {s : State} (h : inDataMemory s.cfg s.exmem.aluOutput = false) :
    s.loadAccess = .fault (.dataAddressOutOfRange s.exmem.aluOutput) := if_neg (by simp [h])

theorem storeAccess_of_inRange {s : State} (h : inDataMemory s.cfg s.exmem.aluOutput = true) :
    s.storeAccess =
      .next (s.setDmem (s.dmem.writeWord s.exmem.aluOutput.toNat s.exmem.b)).stored4 := if_pos h

theorem storeAccess_of_outside {s : State} (h : inDataMemory s.cfg s.exmem.aluOutput = false) :
    s.storeAccess = .fault (.dataAddressOutOfRange s.exmem.aluOutput) := if_neg (by simp [h])

/-- Settles O16: the equations of `exec`, and the access on either side of the range condition. -/
theorem loadStages : Obligations.LoadStages := by
  intro rd rs imm i s hi
  obtain rfl | ⟨rfl, hfp⟩ := hi
  · have hok : fpOk s (.lw rd rs imm) := fpOk_of_needsFp_false rfl
    refine ⟨fun h => exec_ID h hok, fun h => exec_EX h hok, fun h hr => ?_, fun h hr => ?_, fun h => ?_⟩
    · exact (exec_MEM h hok).trans (loadAccess_of_inRange (inDataMemory_iff.2 hr))
    · exact (exec_MEM h hok).trans (loadAccess_of_outside (inDataMemory_eq_false.2 hr))
    · rw [if_pos rfl]; exact exec_WB h hok
  · have hok : fpOk s (.lws rd rs imm) := fun _ => hfp
    refine ⟨fun h => exec_ID h hok, fun h => exec_EX h hok, fun h hr => ?_, fun h hr => ?_, fun h => ?_⟩
    · exact (exec_MEM h hok).trans (loadAccess_of_inRange (inDataMemory_iff.2 hr))
    · exact (exec_MEM h hok).trans (loadAccess_of_outside (inDataMemory_eq_false.2 hr))
    · rw [if_neg nofun]; exact exec_WB h hok

/-- What a word store in MEM leaves: its frame, and the word at its address. -/
theorem storeAccess_memory {s : State} (hr : s.exmem.aluOutput.toNat + 3 < s.cfg.dmemSize) :
    ∃ m : Memory,
      s.storeAccess = .next { s with dmem := m, memwb := { bubble with ir := s.exmem.ir } } ∧
      (∀ x, x < s.exmem.aluOutput.toNat ∨ s.exmem.aluOutput.toNat + 4 ≤ x →
        m.read x = s.dmem.read x) ∧
      (s.dmem.wf = true → m.readWord s.exmem.aluOutput.toNat = s.exmem.b ∧ m.wf = true) :=
  ⟨_, storeAccess_of_inRange (inDataMemory_iff.2 hr), fun _ hx => Memory.read_writeWord_outside hx ..,
    fun hw => ⟨Memory.readWord_writeWord hw .., Memory.writeWord_wf hw ..⟩⟩

/-- Settles O17: the equations of `exec`, and the access on either side of the range condition. -/
theorem storeStages : Obligations.StoreStages := by
  intro rs rt imm i s hi
  obtain rfl | ⟨rfl, hfp⟩ := hi
  · have hok : fpOk s (.sw rs rt imm) := fpOk_of_needsFp_false rfl
    refine ⟨fun h => ?_, fun h => exec_EX h hok, fun h hr => ?_, fun h hr => ?_, fun h => exec_WB h hok⟩
    · rw [if_pos rfl]; exact exec_ID h hok
    · rw [exec_MEM h hok]; exact storeAccess_memory hr
    · exact (exec_MEM h hok).trans (storeAccess_of_outside (inDataMemory_eq_false.2 hr))
  · have hok : fpOk s (.sws rs rt imm) := fun _ => hfp
    refine ⟨fun h => ?_, fun h => exec_EX h hok, fun h hr => ?_, fun h hr => ?_, fun h => exec_WB h hok⟩
    · rw [if_neg nofun]; exact exec_ID h hok
    · rw [exec_MEM h hok]; exact storeAccess_memory hr
    · exact (exec_MEM h hok).trans (storeAccess_of_outside (inDataMemory_eq_false.2 hr))

/-! ## Branches -/

theorem toInt_eq_zero {a : Word} : a.toInt = 0 ↔ a = 0#32 :=
  ⟨fun h => BitVec.eq_of_toInt_eq h, fun h => h ▸ rfl⟩

/-- The six tests, and the jump's, read the register as a signed number (R120 to R126). -/
theorem takenOf_toInt {rs : Reg} {imm a : Word} {i : Instr} {taken : Prop}
    (h : (i, taken) ∈ [(Instr.beqz rs imm, a.toInt = 0), (.bnez rs imm, a.toInt ≠ 0),
      (.bltz rs imm, a.toInt < 0), (.bgtz rs imm, 0 < a.toInt), (.blez rs imm, a.toInt ≤ 0),
      (.bgez rs imm, 0 ≤ a.toInt), (.jump imm, True)]) :
    ∃ t, takenOf a i.opcode = some t ∧ (t = true ↔ taken) := by
  simp only [List.mem_cons, Prod.mk.injEq, List.not_mem_nil, or_false] at h
  have hz := toInt_eq_zero (a := a)
  have hneg : a.msb = true ↔ a.toInt < 0 := by rw [BitVec.msb_eq_toInt, decide_eq_true_iff]
  have hmsb : a.msb = false ↔ 0 ≤ a.toInt := by rw [← Bool.not_eq_true, hneg, not_lt]
  obtain ⟨rfl, rfl⟩ | ⟨rfl, rfl⟩ | ⟨rfl, rfl⟩ | ⟨rfl, rfl⟩ | ⟨rfl, rfl⟩ | ⟨rfl, rfl⟩ | ⟨rfl, rfl⟩ := h
  · exact ⟨_, rfl, by simp [isZero, hz]⟩
  · exact ⟨_, rfl, by simp [isNonzero, hz]⟩
  · exact ⟨_, rfl, hneg⟩
  · exact ⟨_, rfl, by simp [isPositive, hmsb, ← hz]; omega⟩
  · exact ⟨_, rfl, by simp [isNonpositive, hneg, ← hz]; omega⟩
  · exact ⟨_, rfl, by simp [isNonnegative, hmsb]⟩
  · exact ⟨_, rfl, by simp⟩

/-- An opcode with a predicate is a branch or jump: an integer opcode whose ALU value is the target. -/
theorem branch_of_takenOf {a : Word} {o : Opcode} {t : Bool} (h : takenOf a o = some t) :
    o.needsFp = false ∧ o ≠ .NOP ∧ ∀ cfg x, aluOf cfg x o = x.npc + x.imm := by
  cases o
  case BEQZ | BNEZ | BLTZ | BGTZ | BLEZ | BGEZ | JUMP => exact ⟨rfl, nofun, fun _ _ => rfl⟩
  all_goals cases h

/-- EX of a branch or jump (R127, R163): the target and `cond`, and the redirect of the branch taken. -/
theorem exec_EX_branch {s : State} (h : s.stage = .EX) {i : Instr} {t : Bool}
    (ht : takenOf s.idex.a i.opcode = some t) :
    exec i s = .next
      { s with
        branchPending := t
        branchTarget := if t then s.idex.npc + s.idex.imm else s.branchTarget
        exmem := { bubble with
          ir := s.idex.ir
          aluOutput := s.idex.npc + s.idex.imm
          b := s.idex.b
          cond := if t then 1#32 else 0#32 } } := by
  obtain ⟨hfp, hn, halu⟩ := branch_of_takenOf ht
  rw [exec_EX h (fpOk_of_needsFp_false hfp)]
  simp only [resolved, exmemOf, hn, if_false, ht, halu, condWord]
  cases t <;> rfl

/-- MEM and WB of a branch or jump: the target passes through, and nothing is written. -/
theorem exec_MEM_WB_branch {s : State} {i : Instr} {t : Bool}
    (ht : takenOf s.idex.a i.opcode = some t) :
    (s.stage = .MEM → exec i s = .next s.passAlu) ∧ (s.stage = .WB → exec i s = .next s) := by
  obtain ⟨hfp, -, -⟩ := branch_of_takenOf ht
  have hok : fpOk s i := fpOk_of_needsFp_false hfp
  cases i
  case beqz | bnez | bltz | bgtz | blez | bgez | jump =>
    exact ⟨fun h => exec_MEM h hok, fun h => exec_WB h hok⟩
  all_goals cases ht

/-- Settles O18: ID by the equation of `exec`, EX by `exec_EX_branch` with the predicate read as a signed
test. -/
theorem branchStages : Obligations.BranchStages := by
  intro rs imm i taken s hi
  obtain ⟨t, ht, htaken⟩ := takenOf_toInt hi
  obtain ⟨hmem, hwb⟩ := exec_MEM_WB_branch ht
  refine ⟨fun h => ?_, fun h hyes => ?_, fun h hno => ?_, hmem, hwb⟩
  · simp only [List.mem_cons, Prod.mk.injEq, List.not_mem_nil, or_false] at hi
    obtain ⟨rfl, -⟩ | ⟨rfl, -⟩ | ⟨rfl, -⟩ | ⟨rfl, -⟩ | ⟨rfl, -⟩ | ⟨rfl, -⟩ | ⟨rfl, -⟩ := hi
    on_goal 7 => rw [if_pos rfl]; exact exec_ID h (fpOk_of_needsFp_false rfl)
    all_goals rw [if_neg nofun]; exact exec_ID h (fpOk_of_needsFp_false rfl)
  · obtain rfl : t = true := htaken.2 hyes
    exact exec_EX_branch h ht
  · obtain rfl : t = false := by rw [← Bool.not_eq_true, htaken]; exact hno
    exact exec_EX_branch h ht

/-! ## Floating-point arithmetic -/

/-- Settles O19: the equations of `exec` for each of the four, and the default numerics by
`fpCompute_ieee754`. -/
theorem fpArithmeticStages : Obligations.FpArithmeticStages := by
  intro fd fs ft i op s hfp hi
  simp only [List.mem_cons, Prod.mk.injEq, List.not_mem_nil, or_false] at hi
  obtain ⟨rfl, rfl⟩ | ⟨rfl, rfl⟩ | ⟨rfl, rfl⟩ | ⟨rfl, rfl⟩ := hi
  all_goals
    exact ⟨fun h => exec_ID h fun _ => hfp, fun h => exec_EX h fun _ => hfp,
      fun hn => fpCompute_ieee754 hn _ _ _, fun h => exec_MEM h fun _ => hfp,
      fun h => exec_WB h fun _ => hfp⟩

/-! ## `EOP`, `NOP` and the unknown opcode -/

/-- WB of an `EOP` (R156). -/
theorem haltUnlessPending_eq (s : State) :
    s.haltUnlessPending = if s.branchPending = true then s else { s with halted := true } := by
  unfold State.haltUnlessPending
  split
  · next h => rw [show (s.halted || !s.branchPending) = s.halted by simp [h]]
  · next h => rw [show (s.halted || !s.branchPending) = true by simp [h]]

/-- Settles O20: the equations of `exec`, and the halt by `haltUnlessPending_eq`. -/
theorem eopAndNopStages : Obligations.EopAndNopStages := by
  intro s
  have heop : fpOk s .eop := fpOk_of_needsFp_false rfl
  have hnop : fpOk s .nop := fpOk_of_needsFp_false rfl
  refine ⟨fun h => ⟨exec_ID h heop, exec_ID h hnop⟩, fun h => ⟨exec_EX h heop, exec_EX h hnop⟩,
    fun h i hi => ?_, fun h => ⟨?_, exec_WB h hnop⟩⟩
  · simp only [List.mem_cons, List.not_mem_nil, or_false] at hi
    obtain rfl | rfl := hi
    · exact exec_MEM h heop
    · exact exec_MEM h hnop
  · rw [exec_WB h heop]
    exact congrArg _ (haltUnlessPending_eq s)

/-- Settles O21: a record that decodes to nothing runs `execUnknown` in every stage, and so does a
floating-point instruction without `HAS_FP`. -/
theorem unknownOpcodeStages : Obligations.UnknownOpcodeStages := by
  have hrun {r : Record} {s : State} (h : decodeRecord s.cfg.hasFp r = .unknown) (g : Stage) :
      execRecord g r s = execUnknown (s.atStage g) := by
    simp [execRecord, h]
  refine ⟨fun r s h => ⟨hrun h .IF, hrun h .ID, hrun h .EX, hrun h .MEM, hrun h .WB⟩,
    fun r i s hi hfp hd => ?_⟩
  rw [exec_without_fp hi hfp, hrun (hfp ▸ hd)]
  rfl

end Sys2Proof.Machine
end

section
/-! SUPPORT. The net effect of one record run alone (the template at the head of 40_integer_alu.md): the
state in which it reaches MEM, and from it the effect of each instruction. -/

namespace Sys2Proof.Machine

/-! ## A record through the five stages -/

/-- The state after IF of a record run alone. -/
def afterIf (r : Record) (s : State) : State :=
  if r.op s.cfg.hasFp = some .EOP then (latchFetch r s).countEop else (latchFetch r s).countFetch

/-- The state in which a record run alone reaches MEM, from the state after IF and the instruction whose
row of the ID, EX and MEM tables the record follows. -/
def alone (i : Instr) (s : State) : State :=
  ((resolved ((s.setIdex (idexOf s i)).atStage .EX) i.opcode).setExmem
    (exmemOf s.cfg (idexOf s i) i.opcode)).atStage .MEM

theorem resolved_cfg (s : State) (o : Opcode) : (resolved s o).cfg = s.cfg := by
  unfold resolved; split <;> rfl

theorem afterIf_cfg (r : Record) (s : State) : (afterIf r s).cfg = s.cfg := by
  unfold afterIf; split <;> rfl

theorem alone_cfg (i : Instr) (s : State) : (alone i s).cfg = s.cfg :=
  resolved_cfg ..

/-- A record that names registers that exist runs alone to MEM's access and WB. -/
theorem runAlone_eq {r : Record} {s : State} (hr : registersInRange s.cfg.hasFp r = true) :
    runAlone r s =
      andThen (memAccess (alone (Decoded.middle (decodeRecord s.cfg.hasFp r)) (afterIf r s))
        (Decoded.middle (decodeRecord s.cfg.hasFp r)).opcode) fun u =>
          .next (wbEffect (u.atStage .WB) (Decoded.ends (decodeRecord s.cfg.hasFp r))) := by
  have hIF : execRecord .IF r (latchFetch r s) = .next ((afterIf r s).atStage .IF) := by
    rw [execRecord_IF]
    refine (if_pos hr).trans (congrArg _ ?_)
    unfold afterIf
    change (if r.op s.cfg.hasFp = some .EOP then _ else _) = _
    split <;> rfl
  have hID {u : State} (hu : u.cfg = s.cfg) : execRecord .ID r u =
      .next ((u.atStage .ID).setIdex
        (idexOf (u.atStage .ID) (Decoded.middle (decodeRecord s.cfg.hasFp r)))) := by
    rw [execRecord_ID, hu, if_pos hr]
  have hEX {u : State} (hu : u.cfg = s.cfg) : execRecord .EX r u =
      .next ((resolved (u.atStage .EX)
        (Decoded.middle (decodeRecord s.cfg.hasFp r)).opcode).setExmem
          (exmemOf u.cfg u.idex (Decoded.middle (decodeRecord s.cfg.hasFp r)).opcode)) := by
    rw [execRecord_EX, hu, if_pos hr]
  have hMEM {u : State} (hu : u.cfg = s.cfg) : execRecord .MEM r u =
      memAccess (u.atStage .MEM) (Decoded.middle (decodeRecord s.cfg.hasFp r)).opcode := by
    rw [execRecord_MEM, hu, if_pos hr]
  have hWB {u : State} (hu : u.cfg = s.cfg) : execRecord .WB r u =
      .next (wbEffect (u.atStage .WB) (Decoded.ends (decodeRecord s.cfg.hasFp r))) := by
    rw [execRecord_WB, hu, if_pos hr]
  generalize Decoded.middle (decodeRecord s.cfg.hasFp r) = m at *
  have hc := afterIf_cfg r s
  generalize afterIf r s = a at *
  have hcm : (alone m a).cfg = s.cfg := (alone_cfg ..).trans hc
  rw [runAlone, hIF, andThen_next, hID, andThen_next, hEX, andThen_next, hMEM]
  · change andThen (memAccess (alone m a) m.opcode) _ = _
    cases hacc : memAccess (alone m a) m.opcode with
    | fault f => rfl
    | refused q => rfl
    | next u =>
      obtain ⟨d, l, rfl, -⟩ := memAccess_frame hacc
      exact hWB hcm
  · exact (resolved_cfg ..).trans hc
  · exact hc
  · exact hc

theorem registersInRange_of_decode {b : Bool} {r : Record} {i : Instr}
    (h : decodeRecord b r = .instr i) : registersInRange b r = true := by
  simp [registersInRange, h]

theorem afterIf_of_decode {r : Record} {s : State} {i : Instr}
    (h : decodeRecord s.cfg.hasFp r = .instr i) (hi : i.opcode ≠ .EOP) :
    afterIf r s = (latchFetch r s).countFetch :=
  if_neg (by rw [op_of_decode h]; simpa using hi)

/-- An instruction other than `EOP` runs alone to its own row of each table. -/
theorem runAlone_of_decode {r : Record} {s : State} {i : Instr}
    (h : decodeRecord s.cfg.hasFp r = .instr i) (hi : i.opcode ≠ .EOP) :
    runAlone r s =
      andThen (memAccess (alone i (latchFetch r s).countFetch) i.opcode) fun u =>
        .next (wbEffect (u.atStage .WB) i) := by
  rw [runAlone_eq (registersInRange_of_decode h), h, afterIf_of_decode h hi]
  rfl

/-- The state in which an instruction that redirects nothing reaches MEM when it is run alone: `x` is
what ID wrote, `m` what EX wrote. -/
def reachesMem (r : Record) (x m : Latch) (s : State) : State :=
  { s with
    pc := nextPc s
    ifid := { bubble with ir := r, npc := nextPc s }
    idex := x
    exmem := m
    fetchedCount := s.fetchedCount + 1#32
    instCount := s.instCount + 1#32
    stage := .MEM }

theorem alone_of_takenOf_none {a : State} {i : Instr} (hb : ∀ x, takenOf x i.opcode = none) :
    alone i a =
      { a with
        idex := idexOf a i, exmem := exmemOf a.cfg (idexOf a i) i.opcode, stage := .MEM } := by
  unfold alone
  rw [resolved_of_takenOf_none (hb _)]
  rfl

theorem alone_latchFetch {r : Record} {s : State} {i : Instr}
    (hb : ∀ a, takenOf a i.opcode = none) :
    alone i (latchFetch r s).countFetch =
      reachesMem r (idexOf (latchFetch r s) i)
        (exmemOf s.cfg (idexOf (latchFetch r s) i) i.opcode) s := by
  have hx : idexOf (latchFetch r s).countFetch i = idexOf (latchFetch r s) i :=
    idexOf_congr rfl rfl rfl i
  rw [alone_of_takenOf_none hb, hx]
  rfl

/-- An instruction whose MEM copies the ALU value through reaches WB with that value. -/
theorem runAlone_pass {r : Record} {s : State} {i : Instr} {v : Word}
    (hd : decodeRecord s.cfg.hasFp r = .instr i) (hi : i.opcode ≠ .EOP)
    (hb : ∀ a, takenOf a i.opcode = none)
    (hm : ∀ u : State, memAccess u i.opcode = .next u.passAlu)
    (hv : aluOf s.cfg (idexOf (latchFetch r s) i) i.opcode = v) :
    ∃ x m w, w.aluOutput = v ∧
      runAlone r s = .next (wbEffect (((reachesMem r x m s).setMemwb w).atStage .WB) i) := by
  rw [runAlone_of_decode hd hi, alone_latchFetch hb, hm]
  refine ⟨_, _, _, ?_, rfl⟩
  exact (exmemOf_aluOutput ..).trans hv

/-! ## The effect of each instruction -/

/-- Settles O22: the ALU value that each brings to WB, by `runAlone_pass`. -/
theorem integerAluEffect : Obligations.IntegerAluEffect := by
  intro r rd rs rt imm i v s hi hd
  have write_gp (x m w : Latch) (hw : w.aluOutput = v) :
      withoutLatches ((((reachesMem r x m s).setMemwb w).atStage .WB).writeGp rd w.aluOutput) =
        { withoutLatches s with
          gp := s.gp.set rd.val v, pc := nextPc s
          fetchedCount := s.fetchedCount + 1#32, instCount := s.instCount + 1#32 } := by
    rw [hw]; rfl
  simp only [List.mem_cons, Prod.mk.injEq, List.not_mem_nil, or_false] at hi
  obtain ⟨rfl, rfl⟩ | ⟨rfl, rfl⟩ | ⟨rfl, rfl⟩ | ⟨rfl, rfl⟩ | ⟨rfl, rfl⟩ := hi
  all_goals
    obtain ⟨x, m, w, hw, hrun⟩ := runAlone_pass hd nofun (fun _ => rfl) (fun _ => rfl) rfl
    exact ⟨_, hrun, write_gp x m w hw⟩

/-- Settles O26: as O22, with the operation of the configuration. -/
theorem fpArithmeticEffect : Obligations.FpArithmeticEffect := by
  intro r fd fs ft i op s hi hd
  have write_fp (x m w : Latch) (hw : w.aluOutput = fpCompute s.cfg op (s.readFp fs) (s.readFp ft)) :
      withoutLatches ((((reachesMem r x m s).setMemwb w).atStage .WB).writeFp fd w.aluOutput) =
        { withoutLatches s with
          fp := s.fp.set fd.val (fpCompute s.cfg op (s.readFp fs) (s.readFp ft)), pc := nextPc s
          fetchedCount := s.fetchedCount + 1#32, instCount := s.instCount + 1#32 } := by
    rw [hw]; rfl
  simp only [List.mem_cons, Prod.mk.injEq, List.not_mem_nil, or_false] at hi
  obtain ⟨rfl, rfl⟩ | ⟨rfl, rfl⟩ | ⟨rfl, rfl⟩ | ⟨rfl, rfl⟩ := hi
  all_goals
    obtain ⟨x, m, w, hw, hrun⟩ := runAlone_pass hd nofun (fun _ => rfl) (fun _ => rfl) rfl
    exact ⟨_, hrun, write_fp x m w hw⟩

/-- An instruction that makes an access reaches MEM with its effective address in `EXMEM`. -/
theorem runAlone_access {r : Record} {s : State} {i : Instr} {addr : Word}
    (hd : decodeRecord s.cfg.hasFp r = .instr i) (hi : i.opcode ≠ .EOP)
    (hb : ∀ a, takenOf a i.opcode = none)
    (haddr : aluOf s.cfg (idexOf (latchFetch r s) i) i.opcode = addr) :
    ∃ x m, m.aluOutput = addr ∧ m.b = (exmemOf s.cfg (idexOf (latchFetch r s) i) i.opcode).b ∧
      runAlone r s = andThen (memAccess (reachesMem r x m s) i.opcode) fun u =>
        .next (wbEffect (u.atStage .WB) i) := by
  rw [runAlone_of_decode hd hi, alone_latchFetch hb]
  exact ⟨_, _, (exmemOf_aluOutput ..).trans haddr, rfl, rfl⟩

/-- Settles O23: the access of `runAlone_access` on either side of the range condition. -/
theorem loadEffect : Obligations.LoadEffect := by
  rintro r rd rs imm s addr haddr (hd | hd)
  all_goals
    obtain ⟨x, m, hm, -, hrun⟩ :=
      runAlone_access (addr := addr) hd nofun (fun _ => rfl) haddr.symm
    rw [hrun]
    subst hm
    refine ⟨fun hr => ⟨_, congrArg (andThen · _) (loadAccess_of_inRange hr), ?_⟩,
      fun hr => congrArg (andThen · _) (loadAccess_of_outside hr)⟩
    simp only [hd, reduceCtorEq, Decoded.instr.injEq, if_true, if_false]
    rfl

/-- Settles O24: the access of `runAlone_access` on either side of the range condition, and the bytes of
the word stored. -/
theorem storeEffect : Obligations.StoreEffect := by
  rintro r rs rt imm s addr v haddr (⟨hd, hv⟩ | ⟨hd, hv⟩)
  all_goals
    obtain ⟨x, m, hm, hb, hrun⟩ :=
      runAlone_access (addr := addr) hd nofun (fun _ => rfl) haddr.symm
    replace hb : m.b = v := hb.trans hv.symm
    rw [hrun]
    subst hm hb
    refine ⟨fun hr => ⟨_, congrArg (andThen · _) (storeAccess_of_inRange hr), ?_, ?_, ?_⟩,
      fun hr => congrArg (andThen · _) (storeAccess_of_outside hr)⟩
    · exact fun hw => Memory.readWord_writeWord (m := s.dmem) hw ..
    · exact fun x hx => Memory.read_writeWord_outside hx s.dmem m.b
    · rfl

/-- A branch or jump leaves a redirect pending when it is taken and none when it is not (R163). -/
theorem resolved_of_takenOf_some {s : State} {o : Opcode} {t : Bool}
    (h : takenOf s.idex.a o = some t) :
    resolved s o =
      { s with
        branchPending := t
        branchTarget := if t then aluOf s.cfg s.idex o else s.branchTarget } := by
  rw [resolved, h]
  cases t <;> rfl

/-- A branch or jump run alone leaves its redirect pending or none, and passes through MEM and WB. -/
theorem runAlone_branch {r : Record} {s : State} {i : Instr} {t : Bool} {target : Word}
    (hd : decodeRecord s.cfg.hasFp r = .instr i)
    (ht : takenOf (idexOf (latchFetch r s) i).a i.opcode = some t)
    (htarget : aluOf s.cfg (idexOf (latchFetch r s) i) i.opcode = target) :
    ∃ x m w, runAlone r s =
      .next ((({ reachesMem r x m s with
        branchPending := t
        branchTarget := if t then target else s.branchTarget } : State).setMemwb w).atStage .WB) := by
  have hpass (u : State) :
      memAccess u i.opcode = .next u.passAlu ∧ wbEffect u i = u ∧ i.opcode ≠ .EOP := by
    cases i
    case beqz | bnez | bltz | bgtz | blez | bgez | jump => exact ⟨rfl, rfl, nofun⟩
    all_goals cases ht
  have hx : idexOf (latchFetch r s).countFetch i = idexOf (latchFetch r s) i :=
    idexOf_congr rfl rfl rfl i
  rw [runAlone_of_decode hd (hpass s).2.2, (hpass _).1, andThen_next, (hpass _).2.1, alone, hx]
  generalize idexOf (latchFetch r s) i = x at ht htarget
  rw [resolved_of_takenOf_some (t := t) ht]
  subst htarget
  exact ⟨x, exmemOf s.cfg x i.opcode, { bubble with
    ir := (exmemOf s.cfg x i.opcode).ir, aluOutput := (exmemOf s.cfg x i.opcode).aluOutput }, rfl⟩

/-- Settles O25: `runAlone_branch` with the predicate read as a signed test. -/
theorem branchEffect : Obligations.BranchEffect := by
  intro r rs imm i taken s hi hd
  obtain ⟨t, ht, htaken⟩ := takenOf_toInt hi
  have hrow : takenOf (idexOf (latchFetch r s) i).a i.opcode = some t ∧
      aluOf s.cfg (idexOf (latchFetch r s) i) i.opcode = nextPc s + imm := by
    simp only [List.mem_cons, Prod.mk.injEq, List.not_mem_nil, or_false] at hi
    obtain ⟨rfl, -⟩ | ⟨rfl, -⟩ | ⟨rfl, -⟩ | ⟨rfl, -⟩ | ⟨rfl, -⟩ | ⟨rfl, -⟩ | ⟨rfl, -⟩ := hi
    all_goals exact ⟨ht, rfl⟩
  obtain ⟨x, m, w, hrun⟩ := runAlone_branch hd hrow.1 hrow.2
  exact ⟨_, t, hrun, htaken, rfl⟩

/-- `NOP` and the unknown opcode reach WB with nothing to write. -/
theorem runAlone_idle {r : Record} {s : State}
    (hd : decodeRecord s.cfg.hasFp r = .instr .nop ∨ decodeRecord s.cfg.hasFp r = .unknown) :
    ∃ x m w, runAlone r s = .next (((reachesMem r x m s).setMemwb w).atStage .WB) := by
  obtain hd | hd := hd
  · obtain ⟨x, m, w, -, hrun⟩ := runAlone_pass hd nofun (fun _ => rfl) (fun _ => rfl) rfl
    exact ⟨x, m, w, hrun⟩
  · have hif : afterIf r s = (latchFetch r s).countFetch :=
      if_neg (by rw [decode_unknown.1 hd]; nofun)
    rw [runAlone_eq (by simp [registersInRange, hd]), hif, hd]
    simp only [Decoded.middle, Decoded.ends]
    rw [alone_latchFetch fun _ => rfl]
    exact ⟨_, _, _, rfl⟩

/-- Settles O27: `runAlone_idle`, and for `EOP` its own rows of the tables. -/
theorem eopNopUnknownEffect : Obligations.EopNopUnknownEffect := by
  intro r s
  refine ⟨fun hd => ?_, fun hd => ?_⟩
  · obtain ⟨x, m, w, hrun⟩ := runAlone_idle hd
    exact ⟨_, hrun, rfl⟩
  · have hif : afterIf r s = (latchFetch r s).countEop := if_pos (op_of_decode hd)
    rw [runAlone_eq (registersInRange_of_decode hd), hif, hd]
    simp only [Decoded.middle, Decoded.ends]
    rw [alone_of_takenOf_none fun _ => rfl]
    exact ⟨_, rfl, rfl⟩

/-- Settles O28: the word that `storeEffect` says is at the address is the word that `loadEffect` says
is brought to the register, since the store changes no register. -/
theorem loadAfterStoreReturnsWord : Obligations.LoadAfterStoreReturnsWord := by
  intro r1 r2 rs rt rd rb imm imm' v s hw hstore haddr hr
  obtain ⟨hin, -⟩ := storeEffect r1 rs rt imm s _ v rfl hstore
  obtain ⟨u, hrun, hword, -, hu⟩ := hin hr
  have hcfg : u.cfg = s.cfg := by simpa [withoutLatches] using congrArg State.cfg hu
  have hgp : u.gp = s.gp := by simpa [withoutLatches] using congrArg State.gp hu
  have hfp : u.fp = s.fp := by simpa [withoutLatches] using congrArg State.fp hu
  have hreg : effectiveAddress (u.readGp rb) imm' = effectiveAddress (s.readGp rt) imm := by
    rw [State.readGp, hgp]; exact haddr
  rw [hrun, andThen_next]
  have hload := loadEffect r2 rd rb imm' u _ hreg.symm
  rw [hcfg] at hload
  refine ⟨fun hd => ?_, fun hd => ?_⟩
  · obtain ⟨t, ht, hnet⟩ := (hload (.inl hd)).1 hr
    rw [if_pos hd, if_pos hd, hword hw] at hnet
    have htgp : t.gp = u.gp.set rd.val v := by
      simpa [withoutLatches] using congrArg State.gp hnet
    have htfp : t.fp = u.fp := by simpa [withoutLatches, hd] using congrArg State.fp hnet
    exact ⟨t, ht, by simp [State.readGp, htgp], htfp.trans hfp⟩
  · obtain ⟨t, ht, hnet⟩ := (hload (.inr hd)).1 hr
    have hne : ¬ decodeRecord s.cfg.hasFp r2 = .instr (.lw rd rb imm') := by rw [hd]; nofun
    rw [if_neg hne, if_neg hne, hword hw] at hnet
    have htfp : t.fp = u.fp.set rd.val v := by
      simpa [withoutLatches] using congrArg State.fp hnet
    have htgp : t.gp = u.gp := by simpa [withoutLatches] using congrArg State.gp hnet
    exact ⟨t, ht, by simp [State.readFp, htfp], htgp.trans hgp⟩

end Sys2Proof.Machine
end

section
/-! SUPPORT. The host's calls and the observation port (60_exceptions.md sections 2 and 4,
70_reset_and_hazards.md sections 1 and 2), and the spec's vectors for the default numerics. -/

namespace Sys2Proof.Machine

/-- Settles O53: the call on either side of the range condition, and the bytes of the word written. -/
theorem hostWriteMemory : Obligations.HostWriteMemory := by
  intro a v s
  refine ⟨fun hr => ⟨s.dmem.writeWord a.toNat v, if_pos (inDataMemory_iff.2 hr),
    fun x hx => Memory.read_writeWord_outside hx .., fun hw =>
      ⟨Memory.readWord_writeWord hw .., Memory.writeWord_wf hw ..⟩⟩, fun hr => if_neg ?_⟩
  simp [inDataMemory_eq_false.2 hr]

/-- Settles O54: each test of the two calls in turn, with the capacities by `withinMaxUnits_iff` and
`fitsCapacity_iff`. -/
theorem hostConfiguresAndLoads : Obligations.HostConfiguresAndLoads := by
  refine ⟨fun k l n s hfp => ⟨fun hl h0 hm => ?_, fun hl => ?_, fun hl h0 => ?_, fun hl h0 hm => ?_⟩,
    fun rs b s => ⟨fun hl => ?_, fun hl hm => ?_, fun hl hm hbad => ?_, fun hl hm hok => ?_⟩⟩
  · have hw := withinMaxUnits_iff.2 hm
    simp [initExecUnit, hfp, hl, h0.ne', hw, State.setUnits, freshUnit]
  · simp [initExecUnit, hfp, hl]
  · simp [initExecUnit, hfp, hl, h0]
  · have hw : withinMaxUnits s.cfg (s.units.length + n) = false := by
      obtain ⟨m, hm, hlt⟩ := hm
      exact Bool.eq_false_iff.2 fun h => absurd (withinMaxUnits_iff.1 h m hm) (by omega)
    simp [initExecUnit, hfp, hl, h0.ne', hw]
  · simp [loadProgram, hl]
  · have hf : fitsCapacity s.cfg rs.length = false := by
      obtain ⟨m, hm, hlt⟩ := hm
      exact Bool.eq_false_iff.2 fun h => absurd (fitsCapacity_iff.1 h m hm) (by omega)
    simp [loadProgram, hl, hf]
  · obtain ⟨r, hr, f, v, hd⟩ := hbad
    have hall : ¬ rs.all (registersInRange s.cfg.hasFp) = true := fun h => by
      have := List.all_eq_true.1 h r hr
      simp [registersInRange, hd] at this
    simp only [loadProgram, hl, fitsCapacity_iff.2 hm, hall]
    rfl
  · have hall : rs.all (registersInRange s.cfg.hasFp) = true := List.all_eq_true.2 fun r hr => by
      unfold registersInRange
      split
      · next f v hd => exact absurd hd (hok r hr f v)
      · rfl
      · rfl
    simp only [loadProgram, hl, fitsCapacity_iff.2 hm, hall]
    rfl

/-- Reading a register after a write: the value written, or what was there. -/
theorem getElem_set_reg {xs : Vector Word 32} {i j : Nat} (hi : i < 32) (hj : j < 32) (v : Word) :
    (xs.set i v)[j] = if j = i then v else xs[j] := by
  simp [Vector.getElem_set, eq_comm]

/-- Settles O55: the accessors on either side of the index limit and of `HAS_FP`. -/
theorem registerAccessors : Obligations.RegisterAccessors := by
  intro i j v s
  refine ⟨?_, ?_, fun hj => dif_neg (by omega), fun hfp => ?_, fun hfp => ?_⟩
  · by_cases hi : i < 32
    · by_cases hj : j < 32
      · simp [getGpRegister, setGpRegister, hi, hj, State.readGp, getElem_set_reg]
      · simp [getGpRegister, hj, show j ≠ i by omega]
    · simp [setGpRegister, hi]
  · unfold setGpRegister
    split <;> rfl
  · simp [setFpRegister, getFpRegister, hfp]
  · by_cases hi : i < 32
    · refine ⟨s.writeFp ⟨i, hi⟩ v, by simp [setFpRegister, hfp, hi], ?_, rfl, fun hj => ?_⟩
      · by_cases hj : j < 32
        · by_cases hij : j = i <;>
            simp [getFpRegister, hfp, hi, hj, State.readFp, getElem_set_reg, hij]
        · simp [getFpRegister, hfp, hj, show j ≠ i by omega]
      · simp [getFpRegister, hfp, show ¬ j < 32 by omega]
    · refine ⟨s, by simp [setFpRegister, hfp, hi], by simp [hi], rfl, fun hj => ?_⟩
      simp [getFpRegister, hfp, show ¬ j < 32 by omega]

/-- Settles O56: the port's table row by row, and the counters by definition. -/
theorem observationPort : Obligations.ObservationPort := by
  intro s
  refine ⟨rfl, rfl, rfl, rfl, rfl, rfl, rfl, rfl, rfl, rfl, rfl, rfl, rfl, rfl, rfl, fun n g hng => ?_,
    fun n g hn => ?_, fun _ _ => rfl, fun n g => ⟨?_, ?_⟩, rfl, rfl, rfl, fun hc => if_neg hc⟩
  · revert hng
    cases n <;> cases g <;> simp [spRegister]
  · cases n with
    | IR => exact absurd rfl hn
    | _ => cases g <;> rfl
  · cases g <;> rfl
  · cases n <;> rfl

/-- Settles O57: twelve vectors, each by evaluation. -/
theorem ieeeVectors : Obligations.IeeeVectors := by
  unfold Obligations.IeeeVectors
  decide

end Sys2Proof.Machine
end

section
/-! SUPPORT. What one cycle does, kind by kind (45_pipeline_stages.md, 46_hazard_unit.md section 2,
60_exceptions.md section 2): the driver, the frozen cycles, what the stall state makes of decode and
fetch, the counters, and the writers of the registers. -/

namespace Sys2Proof.Machine

/-! ## The driver -/

theorem step_of_running {s : State} (h : Running s) : step s = cycleOf s := by
  simp [step, driverStep, h.1, h.2]

theorem step_of_halted {s : State} (hl : s.loaded = true) (hh : s.halted = true) : step s = .next s := by
  simp [step, driverStep, hl, hh]

theorem andThen_assoc (o : Result) (f g : State → Result) :
    andThen (andThen o f) g = andThen o fun s => andThen (f s) g := by
  cases o <;> rfl

/-- `run(a)` then `run(b)` is `run(a + b)`. -/
theorem runCycles_add (a b : Nat) (s : State) :
    runCycles (a + b) s = andThen (runCycles a s) (runCycles b) := by
  induction a generalizing s with
  | zero => rw [Nat.zero_add]; rfl
  | succ a ih =>
    have hf : runCycles (a + b) = fun t => andThen (runCycles a t) (runCycles b) := funext ih
    rw [Nat.succ_add, runCycles, runCycles, hf, andThen_assoc]

/-- Settles O31: the driver's tests, and `run` by induction on the number of cycles. -/
theorem driverLaws : Obligations.DriverLaws := by
  intro s
  refine ⟨fun hl => by simp [step, driverStep, hl], fun hl hh n => ?_, fun a b => runCycles_add a b s⟩
  induction n with
  | zero => rfl
  | succ n ih =>
    have hs : driverStep s = .next s := step_of_halted hl hh
    rw [runCycles, hs, andThen_next, ih]

/-! ## A step from a drained pipeline -/

theorem decode_of_eq_nopRec {r : Record} (h : r = nopRec) (b : Bool) :
    decodeRecord b r = .instr .nop := h ▸ decode_nopRec b

/-- A drained pipeline when IF runs: the bubbles have moved on. -/
def movedOn (s : State) : State :=
  { s with
    memwb := { bubble with aluOutput := s.exmem.aluOutput }
    exmem := exBubble
    idex := bubble
    stage := .ID }

/-- A bubble in each of the four latches moves on and changes nothing else; then IF fetches. -/
theorem cycleOf_drained {s : State} (h : Drained s) :
    cycleOf s = andThen (fetchAt (movedOn s)) fun t => .next t.endCycle := by
  obtain ⟨-, -, heop, hbp, hk, -, hifid, hidex, hexmem, hmemwb⟩ := h
  have hfalse : isMem s.cfg.hasFp s.exmem.ir = false := by simp [isMem, hexmem]
  have hwait : memWaits s = false := by simp [memWaits, memTimed, hfalse]
  have hwb : wbStage s = .next (s.atStage .WB) := by
    rw [wbStage, execRecord_of_decode (decode_of_eq_nopRec hmemwb _)]; rfl
  have hmem : memStage s = .next (s.atStage .MEM).passAlu := by
    have hp : memProceed s = s := by simp [memProceed, memTimed, hfalse]
    rw [memStage, hp, execRecord_of_decode (decode_of_eq_nopRec hexmem _)]; rfl
  have hclass : unitClass s.cfg.hasFp s.idex.ir = none := by simp [unitClass, hidex]
  have hacq : acquireUnit s = s := by simp [acquireUnit, hclass]
  have hdone : exDone s = true := by simp [exDone, hclass]
  have hex : exStage s = .next (s.atStage .EX).executedNop := by
    have hr : releaseUnit s = s := by simp [releaseUnit, hclass]
    rw [exStage, hr, execRecord_of_decode (decode_of_eq_nopRec hidex _)]; rfl
  have hhaz (b : State) (hc : b.cfg = s.cfg) (hb : b.stallKind = .NONE) :
      hazardHandler s false b = b := by
    have hraw : raw s.cfg.hasFp s.ifid.ir s.idex.ir s.exmem.ir s.memwb.ir = 0 :=
      Nat.eq_zero_of_not_pos fun hpos => srcs_ne_nil_of_raw hpos (by simp [srcs, hifid])
    rw [hazardHandler_set hb, setHazardStall_eq, hc, hraw]
    simp [isBranch, hifid]
  rw [cycleOf_twoPhase, hwb, andThen_next, hwait, hmem]
  simp only [Bool.false_eq_true, if_false, andThen_next, hacq, hdone, if_true, hex, frontEnd]
  have hid : idStage (afterEx (s.atStage .WB) (s.atStage .MEM).passAlu (s.atStage .EX).executedNop s) =
      .next (movedOn s) := by
    have hdec := execRecord_of_decode (g := .ID) (s := afterEx (s.atStage .WB)
      (s.atStage .MEM).passAlu (s.atStage .EX).executedNop s) (decode_of_eq_nopRec hifid _)
    refine (if_neg (fun h => by cases hk.symm.trans h)).trans (hdec.trans ?_)
    have hnop (x : State) : exec .nop (x.atStage .ID) = .next (x.atStage .ID).decodedNop := rfl
    rw [hnop]
    simp [afterEx, State.decodedNop, State.executedNop, State.passAlu, movedOn, State.atStage,
      State.setIdex, State.setExmem, State.setMemwb, hifid, hidex, hexmem, exBubble, bubble]
  have hif : ifStage (movedOn s) = fetchAt (movedOn s) := by
    have hr : redirect (movedOn s) = movedOn s := if_neg (by simp [movedOn, hbp])
    rw [ifStage, hr]
    simp [movedOn, hk, heop]
  rw [hhaz (afterEx (s.atStage .WB) (s.atStage .MEM).passAlu (s.atStage .EX).executedNop s) rfl hk,
    hid, andThen_next, hif]

/-- Settles O29: the cycle by definition, `exec` of the record each stage decodes, and the bubbles of a
drained pipeline moving on. -/
theorem stepRunsDecodedInstruction : Obligations.StepRunsDecodedInstruction := by
  intro s
  have fetch {r : Record} {i : Instr} {s : State} (hr : fetchRecord s = .ok r)
      (hi : decodeRecord s.cfg.hasFp r = .instr i) :
      fetchAt s = exec i ((latchFetch r s).atStage .IF) := by
    rw [fetchAt, hr]
    exact execRecord_of_decode (s := latchFetch r s) hi _
  have hrel : (releaseUnit s).cfg = s.cfg := by
    obtain ⟨held, hr⟩ := releaseUnit_frame s
    rw [hr]
  refine ⟨step_of_running, fun i hi => execRecord_of_decode hi _, fun i hi => ?_, fun i hi => ?_,
    fun i hk hi => ?_, fun r i hr hi => fetch hr hi, fun r i hd hr hi => ?_⟩
  · exact execRecord_of_decode ((memProceed_cfg s).symm ▸ hi) _
  · exact execRecord_of_decode (hrel.symm ▸ hi) _
  · exact (if_neg hk).trans (execRecord_of_decode hi _)
  · have hrun : Running s := ⟨hd.1, hd.2.1⟩
    have hr' : fetchRecord (movedOn s) = .ok r := hr
    rw [step_of_running hrun, cycleOf_drained hd, fetch hr' hi]
    rfl

/-- Settles O30: the machine with the placed word is drained, and the word is at index 0 of its
program. -/
theorem placedWordRunsFirst : Obligations.PlacedWordRunsFirst := by
  intro s nbits w i hi
  have hd : Drained (s.withFetchWord nbits w) := by
    refine ⟨rfl, rfl, rfl, rfl, rfl, rfl, rfl, rfl, rfl, rfl⟩
  have hzero : fetchIndex (s.withFetchWord nbits w) = 0 := by
    simp [fetchIndex, State.withFetchWord]
  have hr : fetchRecord (s.withFetchWord nbits w) = .ok (tableRecord nbits w) :=
    fetchRecord_eq_ok.2 ⟨by simp [State.withFetchWord], by rw [hzero]; rfl⟩
  obtain ⟨-, -, -, -, -, -, hstep⟩ := stepRunsDecodedInstruction (s.withFetchWord nbits w)
  rw [hstep _ _ hd hr hi, exec_IF rfl, andThen_next]
  have hop : i.opcode = .EOP ↔ i = .eop := by cases i <;> simp [Instr.opcode]
  refine ⟨_, rfl, ?_⟩
  by_cases he : i = .eop
  · rw [if_pos (hop.2 he)]
    simp [State.endCycle, latchFetch, he, State.withFetchWord, nextPc, fetchIndex]
  · rw [if_neg (mt hop.1 he)]
    simp [State.endCycle, latchFetch, he, State.withFetchWord, nextPc, fetchIndex]

end Sys2Proof.Machine
end

section
/-! SUPPORT. What one cycle does to the stall state, the fetch, the counters, the instruction memory and
the register files, read off the six kinds of cycle (45_pipeline_stages.md, 46_hazard_unit.md section
2, 60_exceptions.md section 2). -/

namespace Sys2Proof.Machine

section Stall
variable {s : State} {frozen : Bool} {k : StallKind} {r z : Nat} {w : Word}

/-- With no stall in progress the handler sets the one of the table, or none. -/
theorem StallTo.setsStall (h : StallTo s frozen k r z w) (idle : s.stallKind = .NONE) :
    SetsStall s k r z ∧ w = 0#32 := by
  cases h with
  | setRaw _ count pos => exact ⟨⟨by rintro n rfl -; simp [count], by omega⟩, rfl⟩
  | setBranch _ count br => exact ⟨⟨by omega, fun _ => ⟨fun _ => by simp, by simp [br]⟩⟩, rfl⟩
  | idle _ count br => exact ⟨⟨by omega, fun _ => ⟨by simp [br], fun _ => ⟨rfl, rfl, rfl⟩⟩⟩, rfl⟩
  | held busy | releaseBranch busy | release busy => exact absurd idle busy

/-- A frozen cycle leaves a stall in progress as it is. -/
theorem StallTo.frozen_held (h : StallTo s true k r z w) (busy : s.stallKind ≠ .NONE) :
    k = s.stallKind ∧ r = s.stallRem ∧ z = s.stallSize := by
  cases h with
  | setRaw idle | setBranch idle | idle idle => exact absurd idle busy
  | held => exact ⟨rfl, rfl, rfl⟩
  | releaseBranch _ go | release _ go => cases go

end Stall

/-! ## Frozen cycles -/

theorem not_unfrozen_iff {s : State} :
    ¬ Unfrozen s ↔ memWaits s = true ∨ exDone (acquireUnit s) = false := by
  cases h : memWaits s <;> simp [Unfrozen, h]

/-- The stall a frozen cycle leaves. -/
theorem frozen_stall (s : State) :
    (s.stallKind ≠ .NONE →
      (hazardHandler s true s).stallKind = s.stallKind ∧
      (hazardHandler s true s).stallRem = s.stallRem ∧
      (hazardHandler s true s).stallSize = s.stallSize) ∧
    (s.stallKind = .NONE → SetsStall s (hazardHandler s true s).stallKind
      (hazardHandler s true s).stallRem (hazardHandler s true s).stallSize) :=
  ⟨(stallTo s true).frozen_held, fun idle => ((stallTo s true).setsStall idle).1⟩

theorem memCountdown_pos {s : State} (wait : memWaits s = true) : 0 < memCountdown s := by
  simp only [memWaits, Bool.and_eq_true, decide_eq_true_eq] at wait
  exact wait.2

/-- Settles O33: the two frozen kinds of cycle. -/
theorem frozenCycles : Obligations.FrozenCycles := by
  intro s t hrun h
  have hst := frozen_stall s
  cases cycleTo_of_step hrun h with
  | memWait wb wait =>
    have hcnt : memCountdown s - 1 + 1 = memCountdown s := Nat.sub_add_cancel (memCountdown_pos wait)
    exact ⟨fun _ => ⟨rfl, rfl, rfl, hcnt⟩, fun go => absurd (go.symm.trans wait) (by decide),
      fun _ => ⟨rfl, rfl, rfl, rfl, rfl, rfl, hst⟩⟩
  | @exWait s1 s2 wb go mem busy =>
    have hmem : ∃ u, memStage s = .next u ∧ s2.memwb = u.memwb ∧ s2.dmem = u.dmem :=
      ⟨s2, mem, rfl, rfl⟩
    exact ⟨fun wait => absurd (go.symm.trans wait) (by decide),
      fun _ _ => ⟨rfl, rfl, rfl, rfl, hmem⟩, fun _ => ⟨rfl, rfl, rfl, rfl, rfl, rfl, hst⟩⟩
  | raw back | branch back | drain back | fetch back =>
    have hgo := back.go
    have hdone := back.done
    exact ⟨fun wait => absurd (hgo.symm.trans wait) (by decide),
      fun _ busy => absurd (hdone.symm.trans busy) (by decide), fun hf => absurd ⟨hgo, hdone⟩ hf⟩

/-! ## Unfrozen cycles -/

/-- The handler in an unfrozen cycle with no stall in progress (R206). -/
theorem handler_sets {s : State} (idle : s.stallKind = .NONE) :
    SetsStall s (hazardHandler s false s).stallKind (hazardHandler s false s).stallRem
      (hazardHandler s false s).stallSize := ((stallTo s false).setsStall idle).1

/-- What the handler adds to `total_stalls` of its own state. -/
theorem handler_totalStalls (s : State) :
    (hazardHandler s false s).totalStalls = s.totalStalls + releasedStalls s false := by
  have h := congrArg State.totalStalls (hazardHandler_eq (s := s) (b := s) false rfl rfl rfl rfl)
  exact h

/-- The handler at the end of a stall (R207, R208). -/
theorem handler_releases {s : State} (busy : s.stallKind ≠ .NONE) (spent : s.stallRem = 0) :
    (hazardHandler s false s).totalStalls = s.totalStalls + BitVec.ofNat 32 s.stallSize ∧
      (isBranch s.cfg.hasFp s.ifid.ir = true →
        (hazardHandler s false s).stallKind = .BRANCH ∧ (hazardHandler s false s).stallRem = 2 ∧
          (hazardHandler s false s).stallSize = 2) ∧
      (isBranch s.cfg.hasFp s.ifid.ir = false →
        (hazardHandler s false s).stallKind = .NONE ∧ (hazardHandler s false s).stallRem = 0 ∧
          (hazardHandler s false s).stallSize = 0) := by
  rw [hazardHandler_release busy spent, releaseStall_eq]
  split
  · next hb => exact ⟨rfl, fun _ => ⟨rfl, rfl, rfl⟩, fun hn => absurd (hb.symm.trans hn) (by decide)⟩
  · next hb => exact ⟨rfl, fun hy => absurd hy hb, fun _ => ⟨rfl, rfl, rfl⟩⟩

/-- ID of the record in `IFID` after WB. -/
theorem decodedLatch_spec {s s1 : State} (wb : wbStage s = .next s1)
    (regs : registersInRange s.cfg.hasFp s.ifid.ir = true) :
    ∃ u v, wbStage s = .next u ∧ execRecord .ID s.ifid.ir u = .next v ∧
      decodedLatch s1 s = v.idex := by
  have h1 := wbStage_eq_afterWb wb
  have hc : s1.cfg = s.cfg := by rw [h1]; rfl
  have hl : s1.ifid = s.ifid := by rw [h1]; rfl
  have hid := execRecord_ID s.ifid.ir s1
  rw [hc, if_pos regs] at hid
  refine ⟨s1, _, wb, hid, ?_⟩
  exact idexOf_congr (s := afterWb s1 s) (t := s1.atStage .ID) rfl rfl hl.symm _

/-- Settles O36: the handler by the stall it finds, ID and IF by the stall it leaves. -/
theorem stallStateGovernsDecodeAndFetch : Obligations.StallStateGovernsDecodeAndFetch := by
  rintro s _ t hrun ⟨hgo, hdone⟩ rfl h
  have htotal := handler_totalStalls s
  have hidle (idle : s.stallKind = .NONE) : (hazardHandler s false s).totalStalls = s.totalStalls := by
    rw [htotal, ((stallTo s false).setsStall idle).2, BitVec.add_zero]
  have hheld (busy : s.stallKind ≠ .NONE) (left : s.stallRem ≠ 0) : hazardHandler s false s = s :=
    hazardHandler_held busy (.inr left)
  refine ⟨fun idle => ⟨handler_sets idle, hidle idle⟩, hheld, handler_releases, ?_⟩
  cases cycleTo_of_step hrun h with
  | memWait wb wait => exact absurd (hgo.symm.trans wait) (by decide)
  | exWait wb go mem busy => exact absurd (hdone.symm.trans busy) (by decide)
  | raw back kind =>
    exact ⟨rfl, htotal.symm, fun h => absurd (kind.symm.trans h) (by decide),
      fun _ => ⟨rfl, rfl, rfl, kind, rfl⟩, fun h => absurd (kind.symm.trans h) (by decide)⟩
  | branch back kind regs =>
    have hid := decodedLatch_spec back.wb regs
    exact ⟨rfl, htotal.symm, fun h => absurd (kind.symm.trans h) (by decide),
      fun h => absurd (kind.symm.trans h) (by decide), fun _ => ⟨hid, rfl, rfl, kind, rfl⟩⟩
  | drain back kind regs eop =>
    have hid := decodedLatch_spec back.wb regs
    exact ⟨rfl, htotal.symm,
      fun _ => ⟨hid, kind, rfl, fun _ => ⟨rfl, rfl⟩, fun h => absurd (eop.symm.trans h) (by decide)⟩,
      fun h => absurd (kind.symm.trans h) (by decide), fun h => absurd (kind.symm.trans h) (by decide)⟩
  | @fetch s1 s2 u r back kind regs eop fetched inRange =>
    have hid := decodedLatch_spec back.wb regs
    obtain ⟨-, -, -, himem⟩ := exStage_keeps back.ex
    have hmem : r ∈ s.imem := by
      have hr := List.mem_of_getElem? (fetchRecord_eq_ok.1 fetched).2
      rw [redirect_frame] at hr
      exact himem ▸ hr
    exact ⟨rfl, htotal.symm,
      fun _ => ⟨hid, kind, rfl, fun h => absurd (h.symm.trans eop) (by decide),
        fun _ => ⟨r, hmem, rfl, rfl⟩⟩,
      fun h => absurd (kind.symm.trans h) (by decide), fun h => absurd (kind.symm.trans h) (by decide)⟩

/-! ## The fetch and the counters -/

/-- Settles O37: the one kind of cycle that fetches. -/
theorem fetchFollowsRedirect : Obligations.FetchFollowsRedirect := by
  rintro s t hrun ⟨hgo, hdone⟩ hnone hneop h
  cases cycleTo_of_step hrun h with
  | memWait wb wait => exact absurd (hgo.symm.trans wait) (by decide)
  | exWait wb go mem busy => exact absurd (hdone.symm.trans busy) (by decide)
  | raw back kind | branch back kind => exact absurd (kind.symm.trans hnone) (by decide)
  | drain back kind regs eop => exact absurd (eop.symm.trans hneop) (by decide)
  | @fetch s1 s2 u r back kind regs eop fetched inRange =>
    obtain ⟨-, hpc, hbase, himem⟩ := exStage_keeps back.ex
    obtain ⟨halign, hget⟩ := fetchRecord_eq_ok.1 fetched
    have hb : (redirect u).base = s.base := by rw [redirect_frame]; exact hbase
    have hm : (redirect u).imem = s.imem := by rw [redirect_frame]; exact himem
    have hp : (redirect u).pc = if u.branchPending = true then u.branchTarget else s.pc := by
      rw [redirect_pc, hpc]
    have hnext : nextPc (redirect u) =
        s.base + 4#32 * BitVec.ofNat 32 (((redirect u).pc - s.base).toNat / 4 + 1) := by
      rw [nextPc, fetchIndex, hb]
    rw [hb] at halign
    rw [fetchIndex, hb, hm] at hget
    exact ⟨u, r, back.ex, hpc, fetched, rfl, rfl, rfl, rfl, _, hp, halign, hget, hnext⟩

/-- What an unfrozen cycle adds to `total_stalls`. -/
theorem releasedStalls_go (s : State) :
    releasedStalls s false =
      if s.stallKind ≠ .NONE ∧ s.stallRem = 0 then BitVec.ofNat 32 s.stallSize else 0#32 := by
  simp [releasedStalls]

/-- Settles O38: each counter in each kind of cycle. -/
theorem countersPerCycle : Obligations.CountersPerCycle := by
  intro s t hrun h
  have go {u s1 s2 : State} (back : BackEnd s s1 s2 u) : s.totalStalls + releasedStalls s false =
      s.totalStalls + (if Unfrozen s then
        if s.stallKind ≠ .NONE ∧ s.stallRem = 0 then BitVec.ofNat 32 s.stallSize else 0#32
       else 1#32) := by
    rw [if_pos ⟨back.go, back.done⟩, releasedStalls_go]
  have frozen (hf : ¬ Unfrozen s) : s.totalStalls + 1#32 = s.totalStalls + (if Unfrozen s then
        if s.stallKind ≠ .NONE ∧ s.stallRem = 0 then BitVec.ofNat 32 s.stallSize else 0#32
       else 1#32) := by
    rw [if_neg hf]
  cases cycleTo_of_step hrun h with
  | memWait wb wait =>
    have htotal := frozen (not_unfrozen_iff.2 (.inl wait))
    exact ⟨rfl, .inl ⟨rfl, rfl, rfl, rfl⟩, htotal⟩
  | exWait wb hgo mem busy =>
    have htotal := frozen (not_unfrozen_iff.2 (.inr busy))
    exact ⟨rfl, .inl ⟨rfl, rfl, rfl, rfl⟩, htotal⟩
  | raw back | branch back | drain back =>
    have htotal := go back
    exact ⟨rfl, .inl ⟨rfl, rfl, rfl, rfl⟩, htotal⟩
  | @fetch s1 s2 u r back kind regs eop fetched inRange =>
    have htotal := go back
    have hx : ∃ u', exStage (acquireUnit s) = .next u' ∧ nextPc (redirect u) = nextPc (redirect u') :=
      ⟨u, back.ex, rfl⟩
    have heop : (s.eopFetched || decide (r.op s.cfg.hasFp = some .EOP)) =
        decide (r.op s.cfg.hasFp = some .EOP) := by simp [eop]
    have hinst : (if r.op s.cfg.hasFp = some .EOP then s.instCount else s.instCount + 1#32) =
        if (s.eopFetched || decide (r.op s.cfg.hasFp = some .EOP)) = true then s.instCount
        else s.instCount + 1#32 := by simp [eop]
    exact ⟨rfl, .inr ⟨eop, rfl, hx, rfl, heop, hinst⟩, htotal⟩

/-! ## Instruction memory and the register files -/

theorem CycleTo.imem_base {s t : State} (h : CycleTo s t) : t.imem = s.imem ∧ t.base = s.base := by
  cases h <;> exact ⟨rfl, rfl⟩

theorem step_imem_base {s t : State} (h : step s = .next t) : t.imem = s.imem ∧ t.base = s.base := by
  obtain ⟨hl, ⟨-, rfl⟩ | ⟨runs, -⟩⟩ := driverStep_cases h
  · exact ⟨rfl, rfl⟩
  · exact (cycleTo_of_step ⟨hl, runs⟩ h).imem_base

/-- What every step keeps, `run` keeps. -/
theorem runCycles_keeps {p : State → Prop} (hp : ∀ s t, p s → step s = .next t → p t) {n : Nat}
    {s t : State} (hs : p s) (h : runCycles n s = .next t) : p t := by
  induction n generalizing s with
  | zero => exact Host.Outcome.next.inj h ▸ hs
  | succ n ih =>
    obtain ⟨u, hu, h⟩ := andThen_eq_next.1 h
    exact ih (hp s u hs hu) h

/-- Settles O39: no cycle changes instruction memory, and no other call names it. -/
theorem instructionMemoryNeverStoredTo : Obligations.InstructionMemoryNeverStoredTo := by
  refine ⟨fun s t => step_imem_base, fun n s t h => ?_, fun i v s => ?_, fun i v s t h => ?_,
    fun a v s t h => ?_, fun k l n s t h => ?_⟩
  · exact runCycles_keeps (p := fun u => u.imem = s.imem)
      (fun u v hu hv => (step_imem_base hv).1.trans hu) rfl h
  · unfold setGpRegister
    split <;> rfl
  · unfold setFpRegister at h
    split at h
    · split at h <;> cases h <;> rfl
    · cases h
  · obtain ⟨-, rfl⟩ := writeMemory_eq_next h
    rfl
  · obtain ⟨-, -, -, rfl⟩ := initExecUnit_eq_next h
    rfl

theorem CycleTo.registers {s t : State} (h : CycleTo s t) :
    ∃ u, wbStage s = .next u ∧ t.gp = u.gp ∧ t.fp = u.fp := by
  cases h with
  | memWait wb => exact ⟨_, wb, rfl, rfl⟩
  | exWait wb => exact ⟨_, wb, rfl, rfl⟩
  | raw back | branch back | drain back | fetch back => exact ⟨_, back.wb, rfl, rfl⟩

/-- WB of a record that decodes is the effect of its instruction. -/
theorem wbStage_of_decode {s : State} {i : Instr}
    (h : decodeRecord s.cfg.hasFp s.memwb.ir = .instr i) :
    wbStage s = .next (wbEffect (s.atStage .WB) i) := by
  rw [wbStage, execRecord_of_decode h, exec_WB rfl (fpOk_of_decode h _)]

/-- Settles O40: the files after a cycle are those after WB, and WB is the row of its table. -/
theorem onlyWritebackWritesRegisters : Obligations.OnlyWritebackWritesRegisters := by
  intro s
  refine ⟨fun t hrun h => (cycleTo_of_step hrun h).registers, fun rd rs rt imm i hi hd => ?_,
    fun rd rs imm hd => wbStage_of_decode hd, fun fd rs imm hd => wbStage_of_decode hd,
    fun fd fs ft i hi hd => ?_, fun rs rt imm i hi hd => ?_, fun hd => ?_, fun hd => ?_⟩
  · rw [wbStage_of_decode hd]
    simp only [List.mem_cons, List.not_mem_nil, or_false] at hi
    rcases hi with rfl | rfl | rfl | rfl | rfl <;> rfl
  · rw [wbStage_of_decode hd]
    simp only [List.mem_cons, List.not_mem_nil, or_false] at hi
    rcases hi with rfl | rfl | rfl | rfl <;> rfl
  · rw [wbStage_of_decode hd]
    simp only [List.mem_cons, List.not_mem_nil, or_false] at hi
    rcases hi with rfl | rfl | rfl | rfl | rfl | rfl | rfl | rfl | rfl | rfl <;> rfl
  · rw [wbStage, execRecord_WB, registersInRange, hd]
    rfl
  · exact ⟨_, wbStage_of_decode hd⟩

end Sys2Proof.Machine
end

section
/-! SUPPORT. The registers an instruction reads and writes, tied to the sources and the destination the
hazard unit sees in its record (46_hazard_unit.md section 1), and the detection table opcode by
opcode. -/

namespace Sys2Proof.Machine

/-! ## Registers read and written -/

/-- The register ID reads into `a` (R166). -/
def sourceA : Instr → Option (RegFile × Reg)
  | .lw _ rs _ | .addi _ rs _ | .subi _ rs _ | .lws _ rs _ => some (.INT, rs)
  | .add _ rs _ | .sub _ rs _ | .xor _ rs _ => some (.INT, rs)
  | .beqz rs _ | .bnez rs _ | .bltz rs _ | .bgtz rs _ | .blez rs _ | .bgez rs _ => some (.INT, rs)
  | .sw _ rt _ | .sws _ rt _ => some (.INT, rt)
  | .adds _ fs _ | .subs _ fs _ | .mults _ fs _ | .divs _ fs _ => some (.FP, fs)
  | .jump _ | .eop | .nop => none

/-- The register ID reads into `b` (R166). -/
def sourceB : Instr → Option (RegFile × Reg)
  | .add _ _ rt | .sub _ _ rt | .xor _ _ rt => some (.INT, rt)
  | .sw rs _ _ => some (.INT, rs)
  | .sws fs _ _ => some (.FP, fs)
  | .adds _ _ ft | .subs _ _ ft | .mults _ _ ft | .divs _ _ ft => some (.FP, ft)
  | .lw _ _ _ | .addi _ _ _ | .subi _ _ _ | .lws _ _ _ | .beqz _ _ | .bnez _ _ | .bltz _ _
  | .bgtz _ _ | .blez _ _ | .bgez _ _ | .jump _ | .eop | .nop => none

/-- The register WB writes (R155). -/
def target : Instr → Option (RegFile × Reg)
  | .add rd _ _ | .sub rd _ _ | .xor rd _ _ | .addi rd _ _ | .subi rd _ _ | .lw rd _ _ =>
    some (.INT, rd)
  | .lws fd _ _ | .adds fd _ _ | .subs fd _ _ | .mults fd _ _ | .divs fd _ _ => some (.FP, fd)
  | .eop | .sw _ _ _ | .sws _ _ _ | .beqz _ _ | .bnez _ _ | .bltz _ _ | .bgtz _ _ | .blez _ _
  | .bgez _ _ | .jump _ | .nop => none

/-- A register that exists, as the hazard unit names it. -/
def regName (x : RegFile × Reg) : RegFile × Word := (x.1, Reg.field x.2)

/-- The value of a register that exists. -/
def State.readReg (s : State) (x : RegFile × Reg) : Word :=
  match x.1 with
  | .INT => s.readGp x.2
  | .FP => s.readFp x.2

theorem registerValue_regName (s : State) (x : RegFile × Reg) :
    registerValue s (regName x) = some (s.readReg x) := by
  obtain ⟨f, r⟩ := x
  cases f <;> simp [registerValue, regName, State.readReg, State.readGp, State.readFp]

/-- Every name that has a value is one of a register that exists. -/
theorem exists_regName {s : State} {x : RegFile × Word} {v : Word} (h : registerValue s x = some v) :
    ∃ y, x = regName y := by
  obtain ⟨f, w⟩ := x
  have hw : w.toNat < 32 := by
    by_contra hn
    cases f <;> simp [registerValue, Nat.not_lt.1 hn] at h
  exact ⟨(f, ⟨w.toNat, hw⟩), by rw [regName, Reg.field_of_lt]⟩

theorem operandA_eq (s : State) (i : Instr) :
    operandA s i = ((sourceA i).map s.readReg).getD undef := by
  cases i <;> rfl

theorem operandB_eq (s : State) (i : Instr) :
    operandB s i = ((sourceB i).map s.readReg).getD undef := by
  cases i <;> rfl

/-- What ID reads is among the sources the hazard unit checks. -/
theorem sources_of_decode {b : Bool} {r : Record} {i : Instr} (h : decodeRecord b r = .instr i) :
    (∀ x ∈ sourceA i, regName x ∈ srcs b r) ∧ ∀ x ∈ sourceB i, regName x ∈ srcs b r := by
  unfold decodeRecord at h
  split at h
  · cases h
  · next o ho =>
    cases o <;>
      simp only [decodeFields, decodeThree, decodeDestSrc, decodeTwoSrc, decodeOneSrc,
        decodeReg_instr, Decoded.instr.injEq] at h <;>
      obtain ⟨_, _, _, rfl⟩ := h <;>
      simp [srcs, ho, sourceA, sourceB, regName, Reg.field_of_lt]

/-- What WB writes is the destination the hazard unit sees, of a producer of rows 1, 3 and 4. -/
theorem target_of_decode {b : Bool} {r : Record} {i : Instr} (h : decodeRecord b r = .instr i) :
    ∀ x ∈ target i, regName x = (destFile b r, r.dest) ∧ rowOneProducer b r = true ∧
      rowThreeProducer b r = true ∧ rowFourProducer b r = true := by
  unfold decodeRecord at h
  split at h
  · cases h
  · next o ho =>
    cases o <;>
      simp only [decodeFields, decodeThree, decodeDestSrc, decodeTwoSrc, decodeOneSrc,
        decodeReg_instr, Decoded.instr.injEq] at h <;>
      obtain ⟨_, _, _, rfl⟩ := h <;>
      simp [destFile, rowOneProducer, rowThreeProducer, rowFourProducer, ho, target, regName,
        Reg.field_of_lt]

/-- WB leaves every register but the one it writes. -/
theorem wbEffect_readReg (s : State) (i : Instr) {x : RegFile × Reg} (hx : target i ≠ some x) :
    (wbEffect s i).readReg x = s.readReg x := by
  obtain ⟨f, r⟩ := x
  have hset (v : Vector Word 32) (d : Reg) (w : Word) (hd : d ≠ r) :
      (v.set d.val w)[r.val] = v[r.val] :=
    Vector.getElem_set_ne _ _ (fun h => hd (Fin.ext h))
  cases i <;> cases f <;>
    simp_all [target, wbEffect, State.readReg, State.readGp, State.readFp]

/-- What ID writes depends on `IFID` and on the registers the instruction reads. -/
theorem idexOf_congr_sources {s t : State} {i : Instr} (hl : s.ifid = t.ifid)
    (hA : ∀ x ∈ sourceA i, s.readReg x = t.readReg x)
    (hB : ∀ x ∈ sourceB i, s.readReg x = t.readReg x) : idexOf s i = idexOf t i := by
  have hA' : operandA s i = operandA t i := by
    rw [operandA_eq, operandA_eq]
    cases h : sourceA i with
    | none => rfl
    | some x => simp [hA x h]
  have hB' : operandB s i = operandB t i := by
    rw [operandB_eq, operandB_eq]
    cases h : sourceB i with
    | none => rfl
    | some x => simp [hB x h]
  rw [idexOf, idexOf, hA', hB', hl]

/-- The registers read by the row a record follows in ID are among its sources. -/
theorem sources_of_middle (b : Bool) (r : Record) :
    (∀ x ∈ sourceA (Decoded.middle (decodeRecord b r)), regName x ∈ srcs b r) ∧
      ∀ x ∈ sourceB (Decoded.middle (decodeRecord b r)), regName x ∈ srcs b r := by
  cases hd : decodeRecord b r with
  | instr i => exact sources_of_decode hd
  | unknown | badRegister => exact ⟨nofun, nofun⟩

/-- The register written by the row a record follows in WB is the one the hazard unit sees. -/
theorem target_of_ends (b : Bool) (r : Record) :
    ∀ x ∈ target (Decoded.ends (decodeRecord b r)), regName x = (destFile b r, r.dest) ∧
      rowOneProducer b r = true ∧ rowThreeProducer b r = true ∧ rowFourProducer b r = true := by
  cases hd : decodeRecord b r with
  | instr i => exact target_of_decode hd
  | unknown | badRegister => exact nofun

/-- Settles O45: the operands of `IDEX` are the values of registers in `srcs`. -/
theorem decodeReadsOnlySources : Obligations.DecodeReadsOnlySources := by
  intro s t hc hl hregs s' t' hs ht
  have hs' := execRecord_ID_frame hs
  have ht' := execRecord_ID_frame ht
  rw [hs', ht', ← hc, ← hl]
  have hread {x : RegFile × Reg} (hx : regName x ∈ srcs s.cfg.hasFp s.ifid.ir) :
      s.readReg x = t.readReg x := by
    have h := hregs _ hx
    rw [registerValue_regName, registerValue_regName] at h
    exact Option.some.inj h
  obtain ⟨hA, hB⟩ := sources_of_middle s.cfg.hasFp s.ifid.ir
  exact idexOf_congr_sources hl (fun x hx => hread (hA x hx)) fun x hx => hread (hB x hx)

/-- Settles O46: a register that WB changes is the target of the instruction in `MEMWB`. -/
theorem hazardTableCoversEveryWrite : Obligations.HazardTableCoversEveryWrite := by
  intro s t h x hx
  have hname : ∃ y, x = regName y := by
    cases hs : registerValue s x with
    | some v => exact exists_regName hs
    | none =>
      cases ht : registerValue t x with
      | some v => exact exists_regName ht
      | none => exact absurd (ht.trans hs.symm) hx
  obtain ⟨y, rfl⟩ := hname
  rw [registerValue_regName, registerValue_regName, ne_eq, Option.some.injEq] at hx
  rw [wbStage, execRecord_WB] at h
  split at h
  · obtain rfl := Host.Outcome.next.inj h
    have hy : target (Decoded.ends (decodeRecord s.cfg.hasFp s.memwb.ir)) = some y :=
      not_not.1 fun hn => hx (wbEffect_readReg _ _ hn)
    exact target_of_ends _ _ y hy
  · cases h

/-! ## The detection table -/

section Rows
variable {b : Bool} {c idex exmem memwb : Record}

/-- Below row 1 the count is 1 or 0, as rows 3 and 4 say. -/
theorem raw_eq_one_iff : raw b c idex exmem memwb = 1 ↔ ¬ RowApplies rowOneProducer b idex c ∧
    (RowApplies rowThreeProducer b exmem c ∨ RowApplies rowFourProducer b memwb c) := by
  by_cases h1 : RowApplies rowOneProducer b idex c
  · rw [raw_of_rowOne h1]
    exact ⟨nofun, fun h => absurd h1 h.1⟩
  by_cases h3 : RowApplies rowThreeProducer b exmem c
  · rw [raw_of_rowThree h1 h3]
    exact ⟨fun _ => ⟨h1, .inl h3⟩, fun _ => rfl⟩
  by_cases h4 : RowApplies rowFourProducer b memwb c
  · rw [raw_of_rowFour h1 h3 h4]
    exact ⟨fun _ => ⟨h1, .inr h4⟩, fun _ => rfl⟩
  · rw [raw_of_no_row h1 h3 h4]
    exact ⟨nofun, fun h => (h.2.elim h3 h4).elim⟩

theorem raw_eq_zero_iff : raw b c idex exmem memwb = 0 ↔ ¬ RowApplies rowOneProducer b idex c ∧
    ¬ RowApplies rowThreeProducer b exmem c ∧ ¬ RowApplies rowFourProducer b memwb c := by
  refine ⟨fun h => ⟨fun h1 => ?_, fun h3 => ?_, fun h4 => ?_⟩, fun h => raw_of_no_row h.1 h.2.1 h.2.2⟩
  · rw [raw_of_rowOne h1] at h
    cases h
  · exact absurd (h ▸ one_le_raw (.inl h3)) (by decide)
  · exact absurd (h ▸ one_le_raw (.inr h4)) (by decide)

theorem raw_eq_two_iff : raw b c idex exmem memwb = 2 ↔ RowApplies rowOneProducer b idex c := by
  refine ⟨fun h => by_contra fun h1 => ?_, raw_of_rowOne⟩
  by_cases h34 : RowApplies rowThreeProducer b exmem c ∨ RowApplies rowFourProducer b memwb c
  · rw [raw_eq_one_iff.2 ⟨h1, h34⟩] at h
    cases h
  · rw [raw_eq_zero_iff.2 ⟨h1, not_or.1 h34⟩] at h
    cases h

end Rows

theorem mem_srcs_iff (b : Bool) (r : Record) (x : RegFile × Word) : x ∈ srcs b r ↔
    (r.op b ∈ [some .ADD, some .SUB, some .XOR, some .SW] ∧
      (x = (.INT, r.src1) ∨ x = (.INT, r.src2))) ∨
    (r.op b ∈ [some .ADDI, some .SUBI, some .LW, some .LWS, some .BEQZ, some .BNEZ, some .BLTZ,
      some .BGTZ, some .BLEZ, some .BGEZ] ∧ x = (.INT, r.src1)) ∨
    (r.op b = some .SWS ∧ (x = (.FP, r.src1) ∨ x = (.INT, r.src2))) ∨
    (r.op b ∈ [some .ADDS, some .SUBS, some .MULTS, some .DIVS] ∧
      (x = (.FP, r.src1) ∨ x = (.FP, r.src2))) := by
  unfold srcs
  cases r.op b with
  | none => simp
  | some o => cases o <;> simp

/-- The sources of a well-formed record are registers that exist. -/
theorem srcs_lt_of_wellFormed {b : Bool} {r : Record} (h : r.wellFormed b = true)
    {x : RegFile × Word} (hx : x ∈ srcs b r) : x.2.toNat < 32 := by
  unfold Record.wellFormed at h
  unfold srcs at hx
  split at h
  · cases h
  · next o ho =>
    rw [ho] at hx
    cases o <;> simp_all [Opcode.roles, regFieldOk] <;> rcases hx with rfl | rfl <;> simp_all

/-- The destination field of a well-formed record that is no producer of row 1 is `UNDEF`. -/
theorem dest_of_wellFormed {b : Bool} {r : Record} (h : r.wellFormed b = true)
    (hp : rowOneProducer b r = false) : r.dest = undef := by
  unfold Record.wellFormed at h
  unfold rowOneProducer at hp
  split at h
  · cases h
  · next o ho =>
    rw [ho] at hp
    cases o <;> simp_all [Opcode.roles, regFieldOk]

/-- Settles O60: each function by its definition, opcode by opcode, and the count by the rows. -/
theorem hazardTableByOpcode : Obligations.HazardTableByOpcode := by
  have hmatch (b : Bool) (p c : Record) :
      matchesSrc b p c = true ↔ (destFile b p, p.dest) ∈ srcs b c := by simp [matchesSrc]
  refine ⟨mem_srcs_iff, fun b r => ?_, fun b p c => ⟨hmatch b p c, fun hp hc h1 => ?_⟩,
    fun b c idex exmem memwb => ⟨raw_eq_two_iff, raw_eq_one_iff, raw_eq_zero_iff⟩⟩
  · unfold rowFourProducer destFile rowOneProducer rowThreeProducer isBranch
    cases r.op b with
    | none => simp
    | some o => cases o <;> simp
  · by_contra hm
    have hlt := srcs_lt_of_wellFormed hc ((hmatch b p c).1 (by simpa using hm))
    rw [dest_of_wellFormed hp h1] at hlt
    exact absurd (show undef.toNat < 32 from hlt) (by decide)

/-! ## Without `HAS_FP` -/

/-- A record that needs no unit takes none, gives none back, and is done. -/
theorem units_of_no_class {s : State} (hc : unitClass s.cfg.hasFp s.idex.ir = none) :
    acquireUnit s = s ∧ exDone s = true ∧ releaseUnit s = s := by
  simp [acquireUnit, exDone, releaseUnit, hc]

/-- A cycle with a record in EX that needs no unit only counts the units down. -/
theorem CycleTo.units_of_no_class {s t : State} (h : CycleTo s t)
    (hc : unitClass s.cfg.hasFp s.idex.ir = none) :
    t.units = s.units.map FunctionalUnit.tick ∧ t.exUnit = s.exUnit := by
  obtain ⟨hacq, hdone, hrel⟩ := Machine.units_of_no_class hc
  have go {s1 s2 u : State} (back : BackEnd s s1 s2 u) : u.units = s.units ∧ u.exUnit = s.exUnit := by
    have hx := exStage_units back.ex
    rw [hacq, hrel] at hx
    exact hx
  cases h with
  | memWait wb wait => exact ⟨rfl, rfl⟩
  | exWait wb hgo mem busy =>
    rw [hacq, hdone] at busy
    cases busy
  | raw back | branch back | drain back | fetch back =>
    have hx := go back
    exact ⟨congrArg (List.map FunctionalUnit.tick) hx.1, hx.2⟩

/-- Without `HAS_FP` WB leaves the floating-point file. -/
theorem wbStage_fp_without_fp {s t : State} (hf : s.cfg.hasFp = false) (h : wbStage s = .next t) :
    t.fp = s.fp := by
  rw [wbStage, execRecord_WB] at h
  split at h
  · obtain rfl := Host.Outcome.next.inj h
    cases hd : decodeRecord s.cfg.hasFp s.memwb.ir with
    | instr i =>
      have hn : i.opcode.needsFp ≠ true := fun hi =>
        absurd (hf.symm.trans (hasFp_of_decode hd hi)) (by decide)
      cases i
      case lws | adds | subs | mults | divs => exact absurd rfl hn
      all_goals rfl
    | unknown | badRegister => rfl
  · cases h

/-- Settles O43: without `HAS_FP` no record has a class. -/
theorem withoutFpNoUnits : Obligations.WithoutFpNoUnits := by
  intro s hf
  have hclass (r : Record) : unitClass s.cfg.hasFp r = none := by simp [unitClass, hf]
  have hdone : exDone (acquireUnit s) = true := by
    obtain ⟨hacq, hdone, -⟩ := units_of_no_class (hclass s.idex.ir)
    rw [hacq, hdone]
  refine ⟨rfl, rfl, fun k l n => by simp [initExecUnit, hf], hclass, hdone, fun n t h => ?_⟩
  refine runCycles_keeps (p := fun u => u.cfg = s.cfg ∧ u.fp = s.fp ∧
    (s.units = [] → u.units = []) ∧ (s.exUnit = none → u.exUnit = none)) (fun u v hu hv => ?_)
    ⟨rfl, rfl, id, id⟩ h
  obtain ⟨hcfg, hfp, hunits, hheld⟩ := hu
  obtain ⟨hl, ⟨-, rfl⟩ | ⟨runs, -⟩⟩ := driverStep_cases hv
  · exact ⟨hcfg, hfp, hunits, hheld⟩
  have hcyc := cycleTo_of_step ⟨hl, runs⟩ hv
  obtain ⟨hus, hex⟩ := hcyc.units_of_no_class (hcfg ▸ hclass u.idex.ir)
  obtain ⟨w, hwb, -, hw⟩ := hcyc.registers
  exact ⟨hcyc.cfg_eq.trans hcfg, hw.trans ((wbStage_fp_without_fp (hcfg ▸ hf) hwb).trans hfp),
    fun h0 => by rw [hus, hunits h0]; rfl, fun h0 => hex.trans (hheld h0)⟩

end Sys2Proof.Machine
end

section
/-! SUPPORT. How a cycle can end when every record names registers that exist: in a next state, in the
fault of an access, or in the fault of a fetch, and in no refusal (20_memory.md sections 1 and 3,
30_encoding.md section 2); and with that the waits of MEM and EX counted cycle by cycle. -/

namespace Sys2Proof.Machine

/-! ## The stages of a machine whose records name registers that exist -/

/-- The access of the record in `EXMEM` has bytes outside data memory (20_memory.md R66). -/
def DataOutside (s : State) : Prop :=
  isMem s.cfg.hasFp s.exmem.ir = true ∧ s.cfg.dmemSize ≤ s.exmem.aluOutput.toNat + 3

/-- The cycle fetches a record (45_pipeline_stages.md R167). -/
def Fetches (s : State) : Prop :=
  Unfrozen s ∧ s.eopFetched = false ∧ (hazardHandler s false s).stallKind = .NONE

theorem wbStage_total {s : State} (h : registersInRange s.cfg.hasFp s.memwb.ir = true) :
    ∃ s1, wbStage s = .next s1 := by
  rw [wbStage, execRecord_WB, if_pos h]
  exact ⟨_, rfl⟩

theorem exStage_total {s : State} (h : registersInRange s.cfg.hasFp s.idex.ir = true) :
    ∃ u, exStage (acquireUnit s) = .next u := by
  obtain ⟨hc, hi⟩ := acquireUnit_keeps s
  rw [exStage_eq, hc, hi, if_pos h]
  exact ⟨_, rfl⟩

/-- MEM of a record that names registers that exist: its row of the access table. -/
theorem memStage_inRange {s : State} (h : registersInRange s.cfg.hasFp s.exmem.ir = true) :
    (DataOutside s → memStage s = .fault (.dataAddressOutOfRange s.exmem.aluOutput)) ∧
    (¬ DataOutside s → ∃ s2, memStage s = .next s2) := by
  have hx : ((memProceed s).atStage .MEM).exmem = s.exmem ∧
      ((memProceed s).atStage .MEM).cfg = s.cfg := by
    unfold memProceed; split <;> exact ⟨rfl, rfl⟩
  rw [memStage_eq, if_pos h]
  generalize (memProceed s).atStage .MEM = m at hx ⊢
  obtain ⟨hx, hc⟩ := hx
  have hin : inDataMemory m.cfg m.exmem.aluOutput = true ↔ s.exmem.aluOutput.toNat + 3 < s.cfg.dmemSize := by
    rw [hx, hc, inDataMemory_iff]
  have access {f : State} (hmem : isMem s.cfg.hasFp s.exmem.ir = true) :
      (DataOutside s → (if inDataMemory m.cfg m.exmem.aluOutput then Host.Outcome.next f
          else .fault (.dataAddressOutOfRange m.exmem.aluOutput) : Result) =
        .fault (.dataAddressOutOfRange s.exmem.aluOutput)) ∧
      (¬ DataOutside s → ∃ s2, (if inDataMemory m.cfg m.exmem.aluOutput then Host.Outcome.next f
          else .fault (.dataAddressOutOfRange m.exmem.aluOutput) : Result) = .next s2) := by
    constructor
    · intro hout
      have hlt := hout.2
      rw [if_neg (fun hn => by have := hin.1 hn; omega), hx]
    · intro hout
      have hlt : ¬ s.cfg.dmemSize ≤ s.exmem.aluOutput.toNat + 3 := fun hn => hout ⟨hmem, hn⟩
      rw [if_pos (hin.2 (by omega))]
      exact ⟨f, rfl⟩
  have pass (hmem : isMem s.cfg.hasFp s.exmem.ir = false) :
      (DataOutside s → (.next m.passAlu : Result) =
        .fault (.dataAddressOutOfRange s.exmem.aluOutput)) ∧
      (¬ DataOutside s → ∃ s2, (.next m.passAlu : Result) = .next s2) :=
    ⟨fun hout => absurd (hmem.symm.trans hout.1) (by decide), fun _ => ⟨_, rfl⟩⟩
  cases ho : s.exmem.ir.op s.cfg.hasFp with
  | none => exact pass (by simp [isMem, ho])
  | some o =>
    cases o
    case LW | LWS | SW | SWS => exact access (by simp [isMem, ho])
    all_goals exact pass (by simp [isMem, ho])

theorem ifStage_of_raw {s : State} (h : s.stallKind = .RAW) : ifStage s = .next s := by
  simp [ifStage, h]

theorem ifStage_of_branch {s : State} (h : s.stallKind = .BRANCH) :
    ifStage s = .next (s.setIfid bubble).countDownStall := by
  simp [ifStage, h]

theorem ifStage_of_none {s : State} (h : s.stallKind = .NONE) :
    ifStage s = if s.eopFetched = true then .next (s.setIfid bubble) else fetchAt (redirect s) := by
  simp [ifStage, h]

/-! ## The end of a cycle -/

/-- How a cycle can end: in a next state, in the fault of an access, or in the fault of a fetch. -/
inductive CycleEnds (s : State) : Result → Prop
  | next {t} (inside : memWaits s = false → ¬ DataOutside s)
    (fetched : ∀ u, exStage (acquireUnit s) = .next u → Fetches s →
      ∃ r, fetchRecord (redirect u) = .ok r) : CycleEnds s (.next t)
  | access (go : memWaits s = false) (outside : DataOutside s) :
    CycleEnds s (.fault (.dataAddressOutOfRange s.exmem.aluOutput))
  | fetch {u f} (inside : ¬ DataOutside s) (ex : exStage (acquireUnit s) = .next u)
    (fetches : Fetches s) (bad : fetchRecord (redirect u) = .error f) : CycleEnds s (.fault f)

/-- How ID and IF end, in each state the handler can leave the stall in. -/
theorem frontEnd_ends {s s1 s2 u : State} (hreg : RegistersInv s) (go : memWaits s = false)
    (inside : ¬ DataOutside s) (done : exDone (acquireUnit s) = true)
    (ex : exStage (acquireUnit s) = .next u) :
    CycleEnds s (frontEnd s (afterEx s1 s2 u s)) := by
  obtain ⟨himem, hifid, -⟩ := hreg
  have hh : hazardHandler s false (afterEx s1 s2 u s) = handled s s1 s2 u :=
    hazardHandler_eq false rfl rfl rfl rfl
  have hkind : (handled s s1 s2 u).stallKind = (hazardHandler s false s).stallKind := rfl
  have quiet {t : State} (hq : ¬ Fetches s) : CycleEnds s (.next t) :=
    .next (fun _ => inside) fun _ _ hf => absurd hf hq
  rw [frontEnd, hh]
  by_cases hraw : (hazardHandler s false s).stallKind = .RAW
  · have hif := ifStage_of_raw (s := ((handled s s1 s2 u).setIdex bubble).countDownStall) hraw
    rw [idStage, if_pos (hkind.trans hraw), andThen_next, hif, andThen_next]
    exact quiet fun hf => by cases hraw.symm.trans hf.2.2
  have hid : idStage (handled s s1 s2 u) =
      .next { handled s s1 s2 u with idex := decodedLatch s1 s, stage := .ID } := by
    have hrec := execRecord_ID s.ifid.ir (handled s s1 s2 u)
    exact (if_neg hraw).trans (hrec.trans (if_pos hifid))
  have hf := (fetch_handled (s1 := s1) (s2 := s2) ex (decodedLatch s1 s) .ID).1
  have hX : ∃ X : State, { handled s s1 s2 u with idex := decodedLatch s1 s, stage := .ID } = X ∧
      X.stallKind = (hazardHandler s false s).stallKind ∧ X.eopFetched = s.eopFetched ∧
      X.cfg = s.cfg := ⟨_, rfl, rfl, rfl, rfl⟩
  obtain ⟨X, hX, hk, heop, hc⟩ := hX
  rw [hX] at hid hf
  rw [hid, andThen_next]
  by_cases hbr : (hazardHandler s false s).stallKind = .BRANCH
  · rw [ifStage_of_branch (hk.trans hbr), andThen_next]
    exact quiet fun hf => by cases hbr.symm.trans hf.2.2
  have hnone : (hazardHandler s false s).stallKind = .NONE := by
    cases h : (hazardHandler s false s).stallKind <;> simp_all
  rw [ifStage_of_none (hk.trans hnone), heop]
  by_cases hdrain : s.eopFetched = true
  · rw [if_pos hdrain, andThen_next]
    exact quiet fun hf => by cases hdrain.symm.trans hf.2.1
  have hfetches : Fetches s := ⟨⟨go, done⟩, by simpa using hdrain, hnone⟩
  rw [if_neg hdrain, fetchAt, hf]
  cases hr : fetchRecord (redirect u) with
  | error f => exact .fetch inside ex hfetches hr
  | ok r =>
    obtain ⟨-, -, -, hi⟩ := exStage_keeps ex
    have hmem : r ∈ s.imem := by
      have h := List.mem_of_getElem? (fetchRecord_eq_ok.1 hr).2
      rw [redirect_frame] at h
      exact hi ▸ h
    have hin : registersInRange X.cfg.hasFp r = true := hc ▸ List.all_eq_true.1 himem r hmem
    have hcf : (latchFetch r (redirect X)).cfg = X.cfg := by rw [redirect_frame]; rfl
    have hif := execRecord_IF r (latchFetch r (redirect X))
    rw [hcf, if_pos hin] at hif
    simp only [hif, andThen_next]
    refine .next (fun _ => inside) fun u' hu' _ => ?_
    rw [ex] at hu'
    cases hu'
    exact ⟨r, hr⟩

/-- Everything a cycle can end in. -/
theorem cycleEnds {s : State} (hreg : RegistersInv s) : CycleEnds s (cycleOf s) := by
  have ⟨_, _, hidex, hexmem, hmemwb⟩ := hreg
  obtain ⟨s1, wb⟩ := wbStage_total hmemwb
  obtain ⟨u, ex⟩ := exStage_total hidex
  obtain ⟨hout, hin⟩ := memStage_inRange hexmem
  rw [cycleOf_twoPhase, wb, andThen_next]
  by_cases wait : memWaits s = true
  · rw [if_pos wait, frozenEnd]
    exact .next (fun go => by cases wait.symm.trans go) fun _ _ hf => by cases wait.symm.trans hf.1.1
  rw [if_neg wait]
  have go : memWaits s = false := by simpa using wait
  by_cases outside : DataOutside s
  · rw [hout outside]
    exact .access go outside
  obtain ⟨s2, mem⟩ := hin outside
  rw [mem, andThen_next]
  by_cases done : exDone (acquireUnit s) = true
  · rw [if_pos done, ex, andThen_next]
    exact frontEnd_ends hreg go outside done ex
  · rw [if_neg done, frozenEnd]
    exact .next (fun _ => outside) fun _ _ hf => absurd hf.1.2 done

/-- Every step keeps the records inside the register files. -/
theorem CycleTo.registersInv {s t : State} (h : CycleTo s t) (hreg : RegistersInv s) :
    RegistersInv t := by
  obtain ⟨himem, hifid, hidex, hexmem, hmemwb⟩ := hreg
  have hb : registersInRange s.cfg.hasFp bubble.ir = true := by simp [bubble, registersInRange]
  cases h with
  | memWait wb wait => exact ⟨himem, hifid, hidex, hexmem, hb⟩
  | @exWait s1 s2 wb go mem busy =>
    have hw : registersInRange s.cfg.hasFp s2.memwb.ir = true := memStage_ir mem ▸ hexmem
    exact ⟨himem, hifid, hidex, hb, hw⟩
  | @raw s1 s2 u back kind =>
    have hx : registersInRange s.cfg.hasFp u.exmem.ir = true := exStage_ir back.ex ▸ hidex
    have hw : registersInRange s.cfg.hasFp s2.memwb.ir = true := memStage_ir back.mem ▸ hexmem
    exact ⟨himem, hifid, hb, hx, hw⟩
  | @branch s1 s2 u back kind regs | @drain s1 s2 u back kind regs =>
    have hi : registersInRange s.cfg.hasFp (decodedLatch s1 s).ir = true :=
      (decodedLatch_ir s1 s).symm ▸ hifid
    have hx : registersInRange s.cfg.hasFp u.exmem.ir = true := exStage_ir back.ex ▸ hidex
    have hw : registersInRange s.cfg.hasFp s2.memwb.ir = true := memStage_ir back.mem ▸ hexmem
    exact ⟨himem, hb, hi, hx, hw⟩
  | @fetch s1 s2 u r back kind regs eop fetched inRange =>
    have hi : registersInRange s.cfg.hasFp (decodedLatch s1 s).ir = true :=
      (decodedLatch_ir s1 s).symm ▸ hifid
    have hx : registersInRange s.cfg.hasFp u.exmem.ir = true := exStage_ir back.ex ▸ hidex
    have hw : registersInRange s.cfg.hasFp s2.memwb.ir = true := memStage_ir back.mem ▸ hexmem
    exact ⟨himem, inRange, hi, hx, hw⟩

theorem CycleTo.loaded {s t : State} (h : CycleTo s t) : t.loaded = s.loaded := by
  cases h <;> rfl

/-- Settles O49: no stage is refused a record whose registers exist, and no other comes up. -/
theorem loadedMachineIsNeverRefused : Obligations.LoadedMachineIsNeverRefused := by
  intro s hl hreg
  refine ⟨fun t h => ?_, fun q hq => ?_⟩
  · obtain ⟨-, ⟨-, rfl⟩ | ⟨runs, -⟩⟩ := driverStep_cases h
    · exact ⟨hl, hreg⟩
    · have hc := cycleTo_of_step ⟨hl, runs⟩ h
      exact ⟨hc.loaded.trans hl, hc.registersInv hreg⟩
  · by_cases hh : s.halted = true
    · rw [step_of_halted hl hh] at hq
      cases hq
    · have he := cycleEnds hreg
      rw [← step_of_running ⟨hl, by simpa using hh⟩, hq] at he
      cases he

/-! ## Faults -/

/-- Which fault a fetch ends in (20_memory.md R70). -/
theorem fetchRecord_eq_error {s : State} {f : Fault} : fetchRecord s = .error f ↔
    ((s.pc - s.base).toNat % 4 ≠ 0 ∧ f = .fetchMisaligned s.pc) ∨
    ((s.pc - s.base).toNat % 4 = 0 ∧ s.imem.length ≤ (s.pc - s.base).toNat / 4 ∧
      f = .fetchOutsideProgram s.pc) := by
  unfold fetchRecord fetchIndex
  generalize (s.pc - s.base).toNat = n
  by_cases h : n % 4 = 0
  · cases hr : s.imem[n / 4]? with
    | some r =>
      have hlt := (List.getElem?_eq_some_iff.1 hr).1
      simp [h, Nat.not_le.2 hlt]
    | none =>
      have hle := List.getElem?_eq_none_iff.1 hr
      simp [h, hle, eq_comm]
  · simp [h, eq_comm]

/-- Settles O50: the three faults, by the ways a cycle can end. -/
theorem faultsExactlyOutsideTheRules : Obligations.FaultsExactlyOutsideTheRules := by
  intro s hrun hreg
  obtain ⟨u, ex⟩ := exStage_total hreg.2.2.1
  obtain ⟨-, -, hbase, himem⟩ := exStage_keeps ex
  have hb : (redirect u).base = s.base := by rw [redirect_frame]; exact hbase
  have hm : (redirect u).imem = s.imem := by rw [redirect_frame]; exact himem
  have he : CycleEnds s (step s) := step_of_running hrun ▸ cycleEnds hreg
  have hdata (a : Word) : step s = .fault (.dataAddressOutOfRange a) ↔
      a = s.exmem.aluOutput ∧ memWaits s = false ∧ DataOutside s := by
    constructor
    · intro h
      rw [h] at he
      cases he with
      | access go outside => exact ⟨rfl, go, outside⟩
      | fetch inside ex fetches bad =>
        rcases fetchRecord_eq_error.1 bad with ⟨-, h⟩ | ⟨-, -, h⟩ <;> cases h
    · rintro ⟨rfl, go, outside⟩
      generalize step s = o at he
      cases he with
      | next inside fetched => exact absurd outside (inside go)
      | access => rfl
      | fetch inside => exact absurd outside inside
  have hfetch {f : Fault} (hf : ∀ a, f ≠ .dataAddressOutOfRange a) : step s = .fault f ↔
      ¬ (memWaits s = false ∧ DataOutside s) ∧ Fetches s ∧ fetchRecord (redirect u) = .error f := by
    constructor
    · intro h
      rw [h] at he
      cases he with
      | access go outside => exact absurd rfl (hf _)
      | @fetch u' f inside ex' fetches bad =>
        rw [ex] at ex'
        cases ex'
        exact ⟨fun h => inside h.2, fetches, bad⟩
    · rintro ⟨hin, fetches, bad⟩
      generalize step s = o at he
      cases he with
      | next inside fetched =>
        obtain ⟨r, hr⟩ := fetched u ex fetches
        rw [hr] at bad
        cases bad
      | access go outside => exact absurd ⟨go, outside⟩ hin
      | @fetch u' f' inside ex' fetches bad' =>
        rw [ex] at ex'
        cases ex'
        rw [bad] at bad'
        cases bad'
        rfl
  have hcomm : memWaits s = false ∧ DataOutside s ↔ isMem s.cfg.hasFp s.exmem.ir = true ∧
      memWaits s = false ∧ s.cfg.dmemSize ≤ s.exmem.aluOutput.toNat + 3 := and_left_comm
  refine ⟨fun a => (hdata a).trans (and_congr_right' hcomm), u, ex, fun p => ?_, fun p => ?_⟩
  · rw [hfetch (fun _ h => by cases h), fetchRecord_eq_error, hb, hcomm]
    refine and_congr_right' (and_congr_right' ⟨?_, ?_⟩)
    · rintro (⟨h1, h2⟩ | ⟨-, -, h2⟩) <;> cases h2
      exact ⟨rfl, h1⟩
    · rintro ⟨rfl, h⟩
      exact .inl ⟨h, rfl⟩
  · rw [hfetch (fun _ h => by cases h), fetchRecord_eq_error, hb, hm, hcomm]
    refine and_congr_right' (and_congr_right' ⟨?_, ?_⟩)
    · rintro (⟨-, h2⟩ | ⟨h0, h1, h2⟩) <;> cases h2
      exact ⟨rfl, h0, h1⟩
    · rintro ⟨rfl, h0, h1⟩
      exact .inr ⟨h0, h1, rfl⟩

end Sys2Proof.Machine
end

section
/-! SUPPORT. The waits of MEM and EX counted cycle by cycle (45_pipeline_stages.md section 3,
47_functional_units.md): the state held after `k` cycles of a wait, and the class of every opcode. -/

namespace Sys2Proof.Machine

/-! ## A frozen step -/

/-- A frozen cycle whose access, if it makes one, is inside data memory, ends in a next state. -/
theorem step_of_frozen {s : State} (hrun : Running s) (hreg : RegistersInv s) (hf : ¬ Unfrozen s)
    (inside : memWaits s = false → ¬ DataOutside s) : ∃ t, step s = .next t := by
  have he : CycleEnds s (step s) := step_of_running hrun ▸ cycleEnds hreg
  generalize step s = o at he
  cases he with
  | next => exact ⟨_, rfl⟩
  | access go outside => exact absurd outside (inside go)
  | fetch _ _ fetches => exact absurd fetches.1 hf

/-- A step that commits no `EOP` leaves the machine running. -/
theorem running_of_step {s t : State} (hrun : Running s) (h : step s = .next t)
    (hn : ¬ (isEop s s.memwb ∧ s.branchPending = false)) : Running t := by
  refine ⟨(cycleTo_of_step hrun h).loaded.trans hrun.1, ?_⟩
  by_contra hh
  exact hn ((haltExactlyAtCommittedEop s t hrun h).1 (by simpa using hh))

theorem runCycles_succ (k : Nat) (s : State) : runCycles (k + 1) s = andThen (runCycles k s) step := by
  have h1 : runCycles 1 = step := by
    funext s
    change andThen (driverStep s) (fun t => .next t) = driverStep s
    cases driverStep s <;> rfl
  rw [runCycles_add, h1]

/-! ## The memory wait -/

/-- What `k` cycles of the memory wait that starts in `s` have left. -/
structure WaitedInMem (s t : State) (k : Nat) : Prop where
  run : Running t
  regs : RegistersInv t
  quiet : ¬ (isEop t t.memwb ∧ t.branchPending = false)
  cfg : t.cfg = s.cfg
  exmem : t.exmem = s.exmem
  idex : t.idex = s.idex
  ifid : t.ifid = s.ifid
  pc : t.pc = s.pc
  dmem : t.dmem = s.dmem
  stalls : t.totalStalls = s.totalStalls + BitVec.ofNat 32 k
  cycle : t.cycle = s.cycle + BitVec.ofNat 32 k
  left : memCountdown t = s.cfg.dmemLatency - k

section MemWait
variable {s t : State} {k : Nat}

/-- MEM waits as long as there are cycles left. -/
theorem WaitedInMem.memWaits_eq (h : WaitedInMem s t k) (hm : isMem s.cfg.hasFp s.exmem.ir = true)
    (hlat : 0 < s.cfg.dmemLatency) : memWaits t = decide (k < s.cfg.dmemLatency) := by
  simp [memWaits, memTimed, h.left, h.cfg, h.exmem, hm, hlat]

theorem ofNat_succ_add (v : Word) (k : Nat) :
    v + BitVec.ofNat 32 (k + 1) = v + BitVec.ofNat 32 k + 1#32 := by
  rw [BitVec.ofNat_add, ← BitVec.add_assoc]

/-- One more cycle of the wait. -/
theorem WaitedInMem.succ (h : WaitedInMem s t k) (hm : isMem s.cfg.hasFp s.exmem.ir = true)
    (hlat : 0 < s.cfg.dmemLatency) (hk : k < s.cfg.dmemLatency) :
    ∃ t', step t = .next t' ∧ WaitedInMem s t' (k + 1) := by
  have wait : memWaits t = true := by rw [h.memWaits_eq hm hlat]; simpa using hk
  have frozen : ¬ Unfrozen t := not_unfrozen_iff.2 (.inl wait)
  obtain ⟨t', ht'⟩ := step_of_frozen h.run h.regs frozen fun go => by cases wait.symm.trans go
  have hc := cycleTo_of_step h.run ht'
  obtain ⟨hx, -⟩ := exHoldsDuringMemoryWait t t' h.run wait ht'
  obtain ⟨hwait, -, hheld⟩ := frozenCycles t t' h.run ht'
  obtain ⟨hmemwb, hdmem, hstall, hcnt⟩ := hwait wait
  obtain ⟨hidex, hifid, hpc, -, -, htotal, -⟩ := hheld frozen
  have hcycle := (countersPerCycle t t' h.run ht').1
  refine ⟨t', ht', ?_⟩
  exact
    { run := running_of_step h.run ht' h.quiet
      regs := hc.registersInv h.regs
      quiet := fun hq => not_isEop_bubble t' (hmemwb ▸ hq.1)
      cfg := hc.cfg_eq.trans h.cfg
      exmem := hx.trans h.exmem
      idex := hidex.trans h.idex
      ifid := hifid.trans h.ifid
      pc := hpc.trans h.pc
      dmem := hdmem.trans h.dmem
      stalls := by rw [htotal, h.stalls]; exact (ofNat_succ_add _ k).symm
      cycle := by rw [hcycle, h.cycle]; exact (ofNat_succ_add _ k).symm
      left := by
        have hl := h.left
        have : memCountdown t' = t'.memCnt := by simp [memCountdown, hstall]
        omega }

end MemWait

/-- Settles O34: the wait counted by induction on the number of cycles. -/
theorem memoryWaitLastsLatency : Obligations.MemoryWaitLastsLatency := by
  intro s k hrun hreg hm hlat hstall hquiet hk
  have key : ∀ k ≤ s.cfg.dmemLatency, ∃ t, runCycles k s = .next t ∧ WaitedInMem s t k := by
    intro k
    induction k with
    | zero =>
      intro _
      exact ⟨s, rfl, hrun, hreg, hquiet, rfl, rfl, rfl, rfl, rfl, rfl, by simp, by simp,
        by simp [memCountdown, hstall]⟩
    | succ k ih =>
      intro hk
      obtain ⟨t, ht, hw⟩ := ih (by omega)
      obtain ⟨t', ht', hw'⟩ := hw.succ hm hlat hk
      exact ⟨t', by rw [runCycles_succ, ht, andThen_next, ht'], hw'⟩
  obtain ⟨t, ht, hw⟩ := key k hk
  exact ⟨t, ht, hw.exmem, hw.idex, hw.ifid, hw.pc, hw.dmem, hw.stalls, hw.cycle,
    hw.memWaits_eq hm hlat⟩

/-! ## The class of an opcode and its unit -/

/-- The class of every opcode, both ways (R221, R222). -/
theorem unitClass_iff (r : Record) :
    (unitClass true r = some .INTEGER ↔
      r.op true ∈ [some .ADD, some .ADDI, some .SUB, some .SUBI, some .XOR, some .LW, some .SW,
        some .LWS, some .SWS, some .BEQZ, some .BNEZ, some .BLTZ, some .BGTZ, some .BLEZ,
        some .BGEZ, some .JUMP]) ∧
    (unitClass true r = some .ADDER ↔ r.op true ∈ [some .ADDS, some .SUBS]) ∧
    (unitClass true r = some .MULTIPLIER ↔ r.op true = some .MULTS) ∧
    (unitClass true r = some .DIVIDER ↔ r.op true = some .DIVS) ∧
    (unitClass true r = none ↔ r.op true ∈ [some .NOP, some .EOP, none]) := by
  unfold unitClass
  cases r.op true with
  | none => simp
  | some o => cases o <;> simp

/-- `get_free_unit` answers the least index of an idle unit of the kind, and none when there is none
(R223). -/
theorem freeUnit_iff (need : UnitKind) (us : List FunctionalUnit) :
    (∀ j, freeUnit need us = some j ↔
      (∃ u, us[j]? = some u ∧ u.kind = need ∧ u.busy = 0) ∧
      ∀ i < j, ∀ v, us[i]? = some v → v.kind = need → v.busy ≠ 0) ∧
    (freeUnit need us = none ↔ ∀ v ∈ us, v.kind = need → v.busy ≠ 0) := by
  refine ⟨fun j => ⟨fun h => ⟨freeUnit_eq_some h, fun i hi v hv hk => ?_⟩, ?_⟩, ?_⟩
  · obtain ⟨hj, -, hbefore⟩ := List.findIdx?_eq_some_iff_getElem.1 h
    have hn := hbefore i hi
    rw [(List.getElem?_eq_some_iff.1 hv).2] at hn
    simpa [hk] using hn
  · rintro ⟨⟨u, hu, hk, hb⟩, hbefore⟩
    obtain ⟨hj, hget⟩ := List.getElem?_eq_some_iff.1 hu
    refine List.findIdx?_eq_some_iff_getElem.2 ⟨hj, by simp [hget, hk, hb], fun i hi => ?_⟩
    have hn := hbefore i hi _ (List.getElem?_eq_getElem (by omega))
    simpa using hn
  · simp [freeUnit, List.findIdx?_eq_none_iff]

/-- With every unit of the class busy EX waits (R223). -/
theorem exWaits_of_no_unit {s : State} {need : UnitKind}
    (hc : unitClass s.cfg.hasFp s.idex.ir = some need) (hu : s.exUnit = none)
    (hf : freeUnit need s.units = none) : acquireUnit s = s ∧ exDone (acquireUnit s) = false := by
  have ha : acquireUnit s = s := by simp [acquireUnit, hc, hu, hf]
  exact ⟨ha, by simp [ha, exDone, hc, hu]⟩

/-! ## The wait in EX -/

/-- What `k` cycles of the wait for unit `j` of latency `latency`, which starts in `s`, have left. -/
structure WaitedInEx (s t : State) (j latency k : Nat) : Prop where
  run : Running t
  regs : RegistersInv t
  noEopInMem : ¬ isEop t t.exmem
  noEopInWb : ¬ isEop t t.memwb
  cfg : t.cfg = s.cfg
  idex : t.idex = s.idex
  ifid : t.ifid = s.ifid
  pc : t.pc = s.pc
  stalls : t.totalStalls = s.totalStalls + BitVec.ofNat 32 k
  go : memWaits t = false
  inside : ¬ DataOutside t
  unit : (acquireUnit t).exUnit = some j
  left : busyOf (acquireUnit t).units j + k = latency
  record : ((acquireUnit t).units[j]?).map FunctionalUnit.instruction = some s.idex.ir
  sent : 0 < k → t.exmem = exBubble ∧ acquireUnit t = t

section ExWait
variable {s t : State} {j latency k : Nat}

/-- EX is done in the last cycle of the unit's latency. -/
theorem WaitedInEx.exDone_eq (h : WaitedInEx s t j latency k)
    (hc : unitClass s.cfg.hasFp s.idex.ir ≠ none) (hk : k < latency) :
    exDone (acquireUnit t) = decide (k + 1 = latency) := by
  obtain ⟨hcfg, hidex⟩ := acquireUnit_keeps t
  obtain ⟨need, hneed⟩ := Option.ne_none_iff_exists'.1 hc
  have hleft := h.left
  rw [exDone, hcfg, hidex, h.cfg, h.idex, hneed, h.unit]
  exact decide_eq_decide.2 (by omega)

/-- One more cycle of the wait. -/
theorem WaitedInEx.succ (h : WaitedInEx s t j latency k)
    (hc : unitClass s.cfg.hasFp s.idex.ir ≠ none) (hk : k + 1 < latency) :
    ∃ t', step t = .next t' ∧ WaitedInEx s t' j latency (k + 1) := by
  have busy : exDone (acquireUnit t) = false := by
    rw [h.exDone_eq hc (by omega)]
    exact decide_eq_false (by omega)
  have frozen : ¬ Unfrozen t := not_unfrozen_iff.2 (.inr busy)
  obtain ⟨t', ht'⟩ := step_of_frozen h.run h.regs frozen fun _ => h.inside
  have hcyc := cycleTo_of_step h.run ht'
  obtain ⟨-, hwait, hheld⟩ := frozenCycles t t' h.run ht'
  obtain ⟨hexmem, hunit, hunits, -, m, hmem, hmemwb, -⟩ := hwait h.go busy
  obtain ⟨hidex, hifid, hpc, -, -, htotal, -⟩ := hheld frozen
  have hcfg := hcyc.cfg_eq
  have hmem' : isMem t'.cfg.hasFp t'.exmem.ir = false := by rw [hexmem]; simp [isMem, exBubble, bubble]
  have hacq : acquireUnit t' = t' := by
    obtain ⟨need, hneed⟩ := Option.ne_none_iff_exists'.1 hc
    have hneed' : unitClass t'.cfg.hasFp t'.idex.ir = some need := by
      rw [hcfg, h.cfg, hidex, h.idex, hneed]
    have hunit' : t'.exUnit = some j := hunit.trans h.unit
    simp [acquireUnit, hneed', hunit']
  obtain ⟨v, hv, hrec⟩ := Option.map_eq_some_iff.1 h.record
  have hbusy := busyOf_of_getElem? hv
  have hleft := h.left
  refine ⟨t', ht', ?_⟩
  exact
    { run := running_of_step h.run ht' fun hq => h.noEopInWb hq.1
      regs := hcyc.registersInv h.regs
      noEopInMem := hexmem ▸ not_isEop_exBubble t'
      noEopInWb := by
        rw [isEop, hmemwb, memStage_ir hmem, hcfg]
        exact h.noEopInMem
      cfg := hcfg.trans h.cfg
      idex := hidex.trans h.idex
      ifid := hifid.trans h.ifid
      pc := hpc.trans h.pc
      stalls := by rw [htotal, h.stalls]; exact (ofNat_succ_add _ k).symm
      go := by simp [memWaits, memTimed, hmem']
      inside := fun ho => by cases hmem'.symm.trans ho.1
      unit := by rw [hacq, hunit, h.unit]
      left := by
        rw [hacq, hunits, busyOf_map_tick]
        omega
      record := by
        rw [hacq, hunits, List.getElem?_map, hv, ← hrec]
        have : ¬ v.busy ≤ 1 := by omega
        simp [FunctionalUnit.tick, this]
      sent := fun _ => ⟨hexmem, hacq⟩ }

end ExWait

/-- An `EOP` does not come ahead of a record that needs a unit. -/
theorem no_eop_ahead {s : State} (he : EopInv s) (hc : unitClass s.cfg.hasFp s.idex.ir ≠ none) :
    ¬ isEop s s.exmem ∧ ¬ isEop s s.memwb := by
  cases hf : s.eopFetched with
  | false =>
    obtain ⟨-, -, hx, hw, -⟩ := he.1 hf
    exact ⟨hx, hw⟩
  | true =>
    have hidle (hb : s.idex = bubble) : False := hc (by simp [hb, bubble, unitClass])
    have hd := drainAt_of_eopInv he hf
    generalize drainDepth s = d at hd
    cases hd with
    | ifid here idex exmem memwb => exact ⟨exmem, memwb⟩
    | idex ifid here exmem memwb => exact ⟨exmem, memwb⟩
    | exmem ifid idex | memwb ifid idex | gone ifid idex => exact (hidle idex).elim

/-- Settles O35: the class table, the search for a free unit, and the wait by induction on the number
of cycles. -/
theorem unitLatencyHoldsEx : Obligations.UnitLatencyHoldsEx := by
  refine ⟨unitClass_iff, freeUnit_iff, fun s need => exWaits_of_no_unit, ?_⟩
  intro s need j k u hrun hreg he go hrange hclass hunit hfree hu hk
  have hc : unitClass s.cfg.hasFp s.idex.ir ≠ none := by simp [hclass]
  obtain ⟨hx, hw⟩ := no_eop_ahead he hc
  have hacq : acquireUnit s = s.setUnits (occupy s.units j s.idex.ir) (some j) := by
    simp [acquireUnit, hclass, hunit, hfree]
  have hat : (acquireUnit s).units[j]? =
      some { u with busy := u.latency, instruction := s.idex.ir, lastAccepted := s.idex.ir } := by
    rw [hacq]
    change (occupy s.units j s.idex.ir)[j]? = _
    rw [occupy_getElem?, if_pos rfl, hu]
    rfl
  have key : ∀ k < u.latency, ∃ t, runCycles k s = .next t ∧ WaitedInEx s t j u.latency k := by
    intro k
    induction k with
    | zero =>
      intro _
      refine ⟨s, rfl, ?_⟩
      exact
        { run := hrun, regs := hreg, noEopInMem := hx, noEopInWb := hw, cfg := rfl, idex := rfl
          ifid := rfl, pc := rfl, stalls := by simp, go := go
          inside := fun ho => absurd (hrange ho.1) (Nat.not_lt.2 ho.2)
          unit := by rw [hacq]; rfl
          left := by rw [busyOf_of_getElem? hat]; rfl
          record := by rw [hat]; rfl
          sent := fun h => absurd h (by decide) }
    | succ k ih =>
      intro hk
      obtain ⟨t, ht, hw⟩ := ih (by omega)
      obtain ⟨t', ht', hw'⟩ := hw.succ hc hk
      exact ⟨t', by rw [runCycles_succ, ht, andThen_next, ht'], hw'⟩
  obtain ⟨t, ht, hw⟩ := key k hk
  refine ⟨t, ht, hw.idex, hw.ifid, hw.pc, hw.stalls, fun hpos => ?_, hw.unit, hw.exDone_eq hc hk⟩
  obtain ⟨hexmem, hsame⟩ := hw.sent hpos
  have hunit := hw.unit
  have hleft := hw.left
  have hrec := hw.record
  rw [hsame] at hunit hleft hrec
  exact ⟨hexmem, hunit, hleft, hrec⟩

end Sys2Proof.Machine
end

section
/-! SUPPORT. The end of a run (70_reset_and_hazards.md section 3): what the invariants say of a machine
that has halted. -/

namespace Sys2Proof.Machine

/-- `pc` is the address after the `EOP` of the program that was fetched. -/
def EopPcInv (s : State) : Prop :=
  s.eopFetched = true → ∃ k r, s.imem[k]? = some r ∧ r.op s.cfg.hasFp = some .EOP ∧
    s.pc = s.base + 4#32 * BitVec.ofNat 32 (k + 1)

theorem CycleTo.eopPcInv {s t : State} (h : CycleTo s t) (hs : EopPcInv s) : EopPcInv t := by
  cases h with
  | memWait | exWait | raw | branch | drain => exact hs
  | @fetch s1 s2 u r back kind regs eop fetched inRange =>
    intro ht
    have hr : r.op s.cfg.hasFp = some .EOP := by
      have ht : (s.eopFetched || decide (r.op s.cfg.hasFp = some .EOP)) = true := ht
      simpa [eop] using ht
    obtain ⟨-, -, hbase, himem⟩ := exStage_keeps back.ex
    have hget := (fetchRecord_eq_ok.1 fetched).2
    have hm : (redirect u).imem = s.imem := by rw [redirect_frame]; exact himem
    have hb : (redirect u).base = s.base := by rw [redirect_frame]; exact hbase
    rw [hm] at hget
    have hnext : nextPc (redirect u) =
        s.base + 4#32 * BitVec.ofNat 32 (fetchIndex (redirect u) + 1) := by rw [nextPc, hb]
    exact ⟨fetchIndex (redirect u), r, hget, hr, hnext⟩

theorem step_eopPcInv {s t : State} (hs : EopPcInv s) (h : step s = .next t) : EopPcInv t := by
  obtain ⟨hl, ⟨-, rfl⟩ | ⟨runs, -⟩⟩ := driverStep_cases h
  · exact hs
  · exact (cycleTo_of_step ⟨hl, runs⟩ h).eopPcInv hs

/-- A halted machine has drained its `EOP`. -/
theorem drained_of_halted {s : State} (he : EopInv s) (hh : s.halted = true) :
    s.eopFetched = true ∧ drainDepth s = 4 := by
  have hf : s.eopFetched = true := by
    by_contra hf
    have h := (he.1 (by simpa using hf)).2.2.2.2
    exact absurd (h.symm.trans hh) (by decide)
  exact ⟨hf, (he.2 hf).2.2.1.1 hh⟩

/-- With a bubble in `IDEX` no unit is held. -/
theorem exUnit_of_bubble {s : State} (hu : UnitInv s) (hx : s.idex = bubble) : s.exUnit = none := by
  by_contra hn
  obtain ⟨j, hj⟩ := Option.ne_none_iff_exists'.1 hn
  exact (UnitsInEx.of_unitInv hu).class_ne_none hj (by simp [hx, bubble, unitClass])

/-- Settles O51: the invariants of a run at the state that has drained its `EOP`. -/
theorem haltedRunAccountsForEveryCycle : Obligations.HaltedRunAccountsForEveryCycle := by
  intro s t n hs h hh
  obtain ⟨-, -, hinv⟩ := freshLoadMeetsInvariants s hs
  have hpc : EopPcInv s := by
    obtain ⟨cfg, us, prog, base, gp, fp, dmem, -, rfl⟩ := hs
    exact nofun
  obtain ⟨hstall, -, hwait, hunit, heop, haccount⟩ := runCycles_keeps stepKeepsPipelineInv hinv h
  have hpc := runCycles_keeps (fun _ _ => step_eopPcInv) hpc h
  obtain ⟨hf, hdepth⟩ := drained_of_halted heop hh
  obtain ⟨hkind, hpending, -⟩ := heop.2 hf
  have hd := drainAt_of_eopInv heop hf
  obtain ⟨hcycle, hcount⟩ := haccount
  obtain ⟨hrem, hsize⟩ := hstall.1 hkind
  rw [hdepth, hrem, hsize] at hcycle
  rw [hdepth] at hd
  cases hd with
  | gone hifid hidex hexmem hmemwb =>
    rw [hf, if_pos rfl] at hcount
    have hmemStall : t.memStall = false := by
      by_contra hs
      have hm := (hwait.2 (by simpa using hs)).1
      simp [hexmem, isMem, exBubble, bubble] at hm
    have hheld := exUnit_of_bubble hunit hidex
    refine ⟨?_, hcount, hf, hifid, hidex, hexmem, hmemwb, hkind, hpending, hmemStall, hheld,
      hunit.1 hheld, hpc hf⟩
    rw [hcycle, hcount]
    bv_omega

end Sys2Proof.Machine
end

section
/-! SUPPORT. The fields of a binary32 pattern as numbers, and which results of the default numerics are
NaNs (43_fp_arith.md R139). -/

namespace Sys2Proof.Machine

/-! ## The fields of a pattern -/

/-- The lower 31 bits of a pattern. -/
def lowBits (w : Word) : Nat := w.toNat % 2 ^ 31

theorem lowBits_lt (w : Word) : lowBits w < 2 ^ 31 := Nat.mod_lt _ (by decide)

theorem signBit_eq (w : Word) : signBit w = decide (2 ^ 31 ≤ w.toNat) := by
  simp [signBit, BitVec.msb_eq_decide]

theorem exponentField_eq (w : Word) : exponentField w = lowBits w / 2 ^ 23 := by
  have := w.isLt
  simp only [exponentField, lowBits, BitVec.extractLsb'_toNat, Nat.shiftRight_eq_div_pow]
  omega

theorem fractionField_eq (w : Word) : fractionField w = lowBits w % 2 ^ 23 := by
  simp only [fractionField, lowBits, BitVec.extractLsb'_toNat, Nat.shiftRight_eq_div_pow]
  omega

/-- A pattern is its sign and its lower bits. -/
theorem withSign_signBit_lowBits (w : Word) : withSign (signBit w) (lowBits w) = w := by
  have := w.isLt
  apply BitVec.eq_of_toNat_eq
  rw [withSign, signBit_eq, lowBits, BitVec.toNat_ofNat]
  by_cases h : 2 ^ 31 ≤ w.toNat
  · simp only [h, decide_true, if_true]
    omega
  · simp only [h, decide_false, Bool.false_eq_true, if_false]
    omega

section WithSign
variable {neg : Bool} {bits : Nat} (h : bits < 2 ^ 31)
include h

theorem withSign_toNat : (withSign neg bits).toNat = (if neg then 2 ^ 31 else 0) + bits := by
  rw [withSign, BitVec.toNat_ofNat]
  cases neg <;> simp only [Bool.false_eq_true, if_false, if_true] <;> omega

theorem lowBits_withSign : lowBits (withSign neg bits) = bits := by
  rw [lowBits, withSign_toNat h]
  cases neg <;> simp only [Bool.false_eq_true, if_false, if_true] <;> omega

theorem signBit_withSign : signBit (withSign neg bits) = neg := by
  rw [signBit_eq, withSign_toNat h]
  cases neg
  · simp
    omega
  · simp

end WithSign

/-- Two patterns with the same sign and lower bits are equal. -/
theorem eq_of_fields {v w : Word} (hs : signBit v = signBit w) (hl : lowBits v = lowBits w) : v = w := by
  rw [← withSign_signBit_lowBits v, ← withSign_signBit_lowBits w, hs, hl]

theorem isInfinite_iff (w : Word) : isInfinite w = true ↔ lowBits w = infinityBits := by
  have := lowBits_lt w
  simp only [isInfinite, exponentField_eq, fractionField_eq, Bool.and_eq_true, beq_iff_eq,
    infinityBits]
  omega

theorem isNaN_iff (w : Word) : isNaN w = true ↔ infinityBits < lowBits w := by
  have := lowBits_lt w
  simp only [isNaN, exponentField_eq, fractionField_eq, Bool.and_eq_true, beq_iff_eq, bne_iff_ne,
    infinityBits]
  omega

theorem isNaN_eq_false_iff (w : Word) : isNaN w = false ↔ lowBits w ≤ infinityBits := by
  rw [← Bool.not_eq_true, isNaN_iff, Nat.not_lt]

/-- An infinity has no magnitude of zero. -/
theorem magnitude_ne_zero_of_infinite {w : Word} (h : isInfinite w = true) : magnitude w ≠ 0 := by
  have he : exponentField w = 255 := by
    rw [exponentField_eq, (isInfinite_iff w).1 h]
    rfl
  rw [magnitude, he]
  simp

/-! ## The negation of a pattern -/

theorem negate_toNat (w : Word) :
    signBit (negate w) = !signBit w ∧ lowBits (negate w) = lowBits w := by
  constructor
  · rw [signBit, signBit, negate, BitVec.msb_xor]
    exact Bool.xor_true _
  · have hlow (v : Word) : lowBits v = (v.extractLsb' 0 31).toNat := by simp [lowBits]
    rw [hlow, hlow, negate, BitVec.extractLsb'_xor]
    simp

theorem isNaN_negate (w : Word) : isNaN (negate w) = isNaN w := by
  rw [Bool.eq_iff_iff, isNaN_iff, isNaN_iff, (negate_toNat w).2]

theorem isInfinite_negate (w : Word) : isInfinite (negate w) = isInfinite w := by
  rw [Bool.eq_iff_iff, isInfinite_iff, isInfinite_iff, (negate_toNat w).2]

/-! ## Which results are NaNs -/

theorem isNaN_withSign {neg : Bool} {bits : Nat} (h : bits ≤ infinityBits) :
    isNaN (withSign neg bits) = false := by
  have hlt : bits < 2 ^ 31 := lt_of_le_of_lt h (by decide)
  rw [isNaN_eq_false_iff, lowBits_withSign hlt]
  exact h

theorem roundMagnitude_le (n d : Nat) : roundMagnitude n d ≤ infinityBits := Nat.min_le_right _ _

theorem isNaN_infinity (neg : Bool) : isNaN (infinity neg) = false := isNaN_withSign le_rfl

/-- The pattern chosen for a NaN is one, whatever the free bits are. -/
theorem isNaN_nanResult (op : FpOp) (a b : Word) : isNaN (nanResult op a b) = true := by
  have hc : fractionField (Config.nanBits op a b) < 2 ^ 23 := by
    rw [fractionField_eq]
    exact Nat.mod_lt _ (by decide)
  unfold nanResult
  dsimp only
  have hf (f : Nat) (h0 : f ≠ 0) (hlt : f < 2 ^ 23) (neg : Bool) :
      isNaN (withSign neg (infinityBits + f)) = true := by
    rw [isNaN_iff, lowBits_withSign (by simp only [infinityBits]; omega)]
    omega
  split
  · exact hf 1 (by decide) (by decide) _
  · next h => exact hf _ h hc _

theorem isNaN_finiteSum (a b : Word) : isNaN (finiteSum a b) = false := by
  unfold finiteSum
  dsimp only
  split
  · exact isNaN_withSign (by decide)
  · exact isNaN_withSign (roundMagnitude_le ..)

theorem not_isNaN_round (neg : Bool) (n d : Nat) :
    ¬ isNaN (withSign neg (roundMagnitude n d)) = true :=
  Bool.eq_false_iff.1 (isNaN_withSign (roundMagnitude_le n d))

theorem not_isNaN_infinity (neg : Bool) : ¬ isNaN (infinity neg) = true :=
  Bool.eq_false_iff.1 (isNaN_infinity neg)

/-- The sum is a NaN for a NaN operand and for infinities of different signs. -/
theorem isNaN_ieeeSum (op : FpOp) (a b x y : Word) : isNaN (ieeeSum op a b x y) = true ↔
    isNaN x = true ∨ isNaN y = true ∨
      (isInfinite x = true ∧ isInfinite y = true ∧ signBit x ≠ signBit y) := by
  unfold ieeeSum
  by_cases hn : isNaN x = true ∨ isNaN y = true
  · rw [if_pos (by simpa using hn)]
    exact iff_of_true (isNaN_nanResult ..) (hn.imp_right .inl)
  rw [if_neg (by simpa using hn)]
  obtain ⟨hx, hy⟩ := not_or.1 hn
  simp only [hx, hy, Bool.false_eq_true, false_or]
  by_cases hix : isInfinite x = true
  · rw [if_pos hix]
    by_cases hd : isInfinite y = true ∧ signBit x ≠ signBit y
    · rw [if_pos (by simpa using hd)]
      exact iff_of_true (isNaN_nanResult ..) ⟨hix, hd⟩
    · rw [if_neg (by simpa using hd)]
      exact iff_of_false (not_isNaN_infinity _) fun h => hd h.2
  · rw [if_neg hix]
    refine iff_of_false ?_ fun h => hix h.1
    split
    · exact not_isNaN_infinity _
    · exact Bool.eq_false_iff.1 (isNaN_finiteSum x y)

/-- The product is a NaN for a NaN operand and for zero times an infinity. -/
theorem isNaN_ieeeMul (a b : Word) : isNaN (ieeeMul a b) = true ↔
    isNaN a = true ∨ isNaN b = true ∨
      (isInfinite a = true ∧ magnitude b = 0) ∨ (magnitude a = 0 ∧ isInfinite b = true) := by
  have ha0 := magnitude_ne_zero_of_infinite (w := a)
  have hb0 := magnitude_ne_zero_of_infinite (w := b)
  unfold ieeeMul
  dsimp only
  by_cases hn : isNaN a = true ∨ isNaN b = true
  · rw [if_pos (by simpa using hn)]
    exact iff_of_true (isNaN_nanResult ..) (hn.imp_right .inl)
  rw [if_neg (by simpa using hn)]
  obtain ⟨ha, hb⟩ := not_or.1 hn
  simp only [ha, hb, Bool.false_eq_true, false_or]
  by_cases hi : isInfinite a = true ∨ isInfinite b = true
  · rw [if_pos (by simpa using hi)]
    by_cases hz : magnitude a = 0 ∨ magnitude b = 0
    · rw [if_pos (by simpa using hz)]
      refine iff_of_true (isNaN_nanResult ..) ?_
      rcases hi with hi | hi
      · exact .inl ⟨hi, hz.resolve_left (ha0 hi)⟩
      · exact .inr ⟨hz.resolve_right (hb0 hi), hi⟩
    · rw [if_neg (by simpa using hz)]
      exact iff_of_false (not_isNaN_infinity _) fun h => hz (h.symm.imp And.left And.right)
  · rw [if_neg (by simpa using hi)]
    exact iff_of_false (not_isNaN_round _ _ _) fun h => hi (h.imp And.left And.right)

/-- The quotient is a NaN for a NaN operand, for two infinities and for two zeros. -/
theorem isNaN_ieeeDiv (a b : Word) : isNaN (ieeeDiv a b) = true ↔
    isNaN a = true ∨ isNaN b = true ∨
      (isInfinite a = true ∧ isInfinite b = true) ∨ (magnitude a = 0 ∧ magnitude b = 0) := by
  have ha0 := magnitude_ne_zero_of_infinite (w := a)
  have hb0 := magnitude_ne_zero_of_infinite (w := b)
  unfold ieeeDiv
  dsimp only
  by_cases hn : isNaN a = true ∨ isNaN b = true
  · rw [if_pos (by simpa using hn)]
    exact iff_of_true (isNaN_nanResult ..) (hn.imp_right .inl)
  rw [if_neg (by simpa using hn)]
  obtain ⟨ha, hb⟩ := not_or.1 hn
  simp only [ha, hb, Bool.false_eq_true, false_or]
  by_cases hia : isInfinite a = true
  · rw [if_pos hia]
    split
    · next hib => exact iff_of_true (isNaN_nanResult ..) (.inl ⟨hia, hib⟩)
    · next hib =>
      exact iff_of_false (not_isNaN_infinity _) fun h => h.elim (fun h => hib h.2)
        fun h => ha0 hia h.1
  rw [if_neg hia]
  by_cases hib : isInfinite b = true
  · rw [if_pos hib]
    exact iff_of_false (Bool.eq_false_iff.1 (isNaN_withSign (by decide)))
      fun h => h.elim (fun h => hia h.1) fun h => hb0 hib h.2
  rw [if_neg hib]
  by_cases hmb : magnitude b = 0
  · rw [if_pos hmb]
    split
    · next hma => exact iff_of_true (isNaN_nanResult ..) (.inr ⟨hma, hmb⟩)
    · next hma =>
      exact iff_of_false (not_isNaN_infinity _) fun h => h.elim (fun h => hia h.1)
        fun h => hma h.1
  · rw [if_neg hmb]
    exact iff_of_false (not_isNaN_round _ _ _) fun h => h.elim (fun h => hia h.1) fun h => hmb h.2

/-- Two infinities are equal when their signs are. -/
theorem infinite_eq_iff {a b : Word} (ha : isInfinite a = true) (hb : isInfinite b = true) :
    a = b ↔ signBit a = signBit b := by
  refine ⟨fun h => h ▸ rfl, fun h => eq_of_fields h ?_⟩
  rw [(isInfinite_iff a).1 ha, (isInfinite_iff b).1 hb]

/-- Settles O58: operation by operation; the difference is the sum with the second sign turned. -/
theorem nanExactlyWhenInvalid : Obligations.NanExactlyWhenInvalid := by
  intro a b
  refine ⟨?_, ?_, isNaN_ieeeMul a b, isNaN_ieeeDiv a b⟩
  · rw [ieeeAdd, isNaN_ieeeSum]
    refine or_congr_right (or_congr_right (and_congr_right fun ha => and_congr_right fun hb => ?_))
    exact not_congr (infinite_eq_iff ha hb).symm
  · rw [ieeeSub, isNaN_ieeeSum, isNaN_negate, isInfinite_negate, (negate_toNat b).1]
    refine or_congr_right (or_congr_right (and_congr_right fun ha => and_congr_right fun hb => ?_))
    rw [infinite_eq_iff ha hb, Ne, Bool.eq_not, not_not]

end Sys2Proof.Machine
end

section
/-! SUPPORT. Rounding to nearest, ties to even (43_fp_arith.md R139). The lower bits of a finite pattern
are `r + e * 2^23` for a significand `r` and a shift `e`, and stand for `r * 2^e`; so the pattern
nearest to a magnitude comes from the integer nearest to it at the right shift. -/

namespace Sys2Proof.Machine

/-! ## The magnitude of lower bits -/

/-- The magnitude, in units of 2^-149, that the lower bits of a pattern stand for. -/
def bitsValue (k : Nat) : Nat :=
  if k / 2 ^ 23 = 0 then k % 2 ^ 23 else (2 ^ 23 + k % 2 ^ 23) * 2 ^ (k / 2 ^ 23 - 1)

theorem magnitude_eq (w : Word) : magnitude w = bitsValue (lowBits w) := by
  rw [magnitude, bitsValue, exponentField_eq, fractionField_eq]

/-- `e` is the least shift at which the significand has at most 24 bits. -/
def Normal (e r : Nat) : Prop := e = 0 ∨ 2 ^ 23 ≤ r

/-- A significand at its shift, also the one that rounding has carried to 2^24. -/
theorem bitsValue_normal {e r : Nat} (hr : r ≤ 2 ^ 24) (hn : Normal e r) :
    bitsValue (r + e * 2 ^ 23) = r * 2 ^ e := by
  unfold bitsValue
  rcases Nat.lt_or_ge r (2 ^ 23) with hlt | hge
  · obtain rfl : e = 0 := hn.resolve_right (by omega)
    rw [if_pos (by omega)]
    omega
  rcases Nat.lt_or_ge r (2 ^ 24) with hlt | hge'
  · have hdiv : (r + e * 2 ^ 23) / 2 ^ 23 = e + 1 := by omega
    have hmod : 2 ^ 23 + (r + e * 2 ^ 23) % 2 ^ 23 = r := by omega
    rw [hdiv, hmod, if_neg (by omega), Nat.add_sub_cancel]
  · obtain rfl : r = 2 ^ 24 := by omega
    have hdiv : (2 ^ 24 + e * 2 ^ 23) / 2 ^ 23 = e + 2 := by omega
    have hmod : (2 ^ 24 + e * 2 ^ 23) % 2 ^ 23 = 0 := by omega
    rw [hdiv, hmod, if_neg (by omega), show e + 2 - 1 = e + 1 from rfl, Nat.pow_succ]
    omega

/-- Every pattern of lower bits is a significand below 2^24 at its shift. -/
theorem exists_normal (k : Nat) : ∃ e r, r < 2 ^ 24 ∧ Normal e r ∧ k = r + e * 2 ^ 23 := by
  rcases Nat.lt_or_ge k (2 ^ 23) with hlt | hge
  · exact ⟨0, k, by omega, .inl rfl, by omega⟩
  · exact ⟨k / 2 ^ 23 - 1, 2 ^ 23 + k % 2 ^ 23, by omega, .inr (by omega), by omega⟩

/-- Larger lower bits stand for a larger magnitude. -/
theorem bitsValue_strictMono : StrictMono bitsValue := by
  refine strictMono_nat_of_lt_succ fun k => ?_
  obtain ⟨e, r, hr, hn, rfl⟩ := exists_normal k
  have hn' : Normal e (r + 1) := hn.imp_right fun h => by omega
  rw [bitsValue_normal hr.le hn, show r + e * 2 ^ 23 + 1 = r + 1 + e * 2 ^ 23 by omega,
    bitsValue_normal (by omega) hn']
  exact Nat.mul_lt_mul_of_pos_right (Nat.lt_succ_self r) (by positivity)

theorem bitsValue_zero : bitsValue 0 = 0 := rfl

/-- From a shift on, every magnitude is a multiple of it. -/
theorem dvd_bitsValue {e k : Nat} (h : e = 0 ∨ (e + 1) * 2 ^ 23 ≤ k) : 2 ^ e ∣ bitsValue k := by
  rcases h with rfl | h
  · exact one_dvd _
  obtain ⟨e', r, hr, hn, rfl⟩ := exists_normal k
  rw [bitsValue_normal hr.le hn]
  exact Dvd.dvd.mul_left (pow_dvd_pow 2 (by omega)) r

/-! ## The nearest integer -/

section HalfEven
variable {n D : Nat}

/-- The two integers `n / D` can round to. -/
theorem roundHalfEven_cases (n D : Nat) :
    (roundHalfEven n D = n / D ∧ 2 * (n % D) ≤ D ∧ (2 * (n % D) = D → n / D % 2 = 0)) ∨
    (roundHalfEven n D = n / D + 1 ∧ D ≤ 2 * (n % D) ∧ (2 * (n % D) = D → (n / D + 1) % 2 = 0)) := by
  unfold roundHalfEven
  dsimp only
  split_ifs with h1 h2
  · exact .inl ⟨rfl, by omega, by omega⟩
  · exact .inr ⟨rfl, by omega, by omega⟩
  · rcases Nat.mod_two_eq_zero_or_one (n / D) with h | h
    · exact .inl ⟨by omega, by omega, fun _ => h⟩
    · exact .inr ⟨by omega, by omega, by omega⟩

/-- No integer is nearer to `n / D`, and of two as near it is the even one. -/
theorem roundHalfEven_nearest (hD : 0 < D) {m : Nat} (hm : m ≠ roundHalfEven n D) :
    ((roundHalfEven n D * D : Nat) - (n : Int)).natAbs ≤ ((m * D : Nat) - (n : Int)).natAbs ∧
    (((roundHalfEven n D * D : Nat) - (n : Int)).natAbs = ((m * D : Nat) - (n : Int)).natAbs →
      roundHalfEven n D % 2 = 0) := by
  have hdiv := Nat.div_add_mod' n D
  have hlt := Nat.mod_lt n hD
  have hcases := roundHalfEven_cases n D
  generalize roundHalfEven n D = r at hm hcases ⊢
  generalize n / D = q at hdiv hcases
  generalize n % D = t at hdiv hlt hcases
  have hq1 : (q + 1) * D = q * D + D := Nat.succ_mul q D
  have below (h : m < q) : m * D + D ≤ q * D := by
    rw [← Nat.succ_mul]; exact Nat.mul_le_mul_right D h
  have above (h : q + 1 < m) : (q + 1) * D + D ≤ m * D := by
    rw [← Nat.succ_mul]; exact Nat.mul_le_mul_right D h
  have hpos : m < q ∨ m = q ∨ m = q + 1 ∨ q + 1 < m := by omega
  rcases hcases with ⟨rfl, hle, heven⟩ | ⟨rfl, hle, heven⟩
  · rcases hpos with h | h | rfl | h
    · have := below h; omega
    · exact absurd h hm
    · rw [hq1]; omega
    · have := above h; omega
  · rw [hq1]
    rcases hpos with h | rfl | h | h
    · have := below h; omega
    · omega
    · exact absurd h hm
    · have := above h; omega

/-- The rounding error is at most half, and less if the integer rounded up to is odd. -/
theorem roundHalfEven_error (hD : 0 < D) :
    2 * n ≤ (2 * roundHalfEven n D + 1) * D ∧ 2 * roundHalfEven n D * D ≤ 2 * n + D ∧
      (roundHalfEven n D % 2 = 1 → 2 * n < (2 * roundHalfEven n D + 1) * D) := by
  have hdiv := Nat.div_add_mod' n D
  have hlt := Nat.mod_lt n hD
  have hcases := roundHalfEven_cases n D
  generalize roundHalfEven n D = r at hcases ⊢
  have h1 : (2 * r + 1) * D = 2 * (r * D) + D := by ring
  have h2 : 2 * r * D = 2 * (r * D) := by ring
  rw [h1, h2]
  rcases hcases with ⟨rfl, hle, heven⟩ | ⟨rfl, hle, -⟩
  · omega
  · rw [Nat.succ_mul (n / D)]; omega

end HalfEven

/-! ## `roundMagnitude` -/

/-- The shift `roundMagnitude` rounds at. -/
def shiftOf (n d : Nat) : Nat := Nat.log2 (n / d) - 23

/-- The significand `roundMagnitude` rounds to. -/
def significandOf (n d : Nat) : Nat := roundHalfEven n (d * 2 ^ shiftOf n d)

theorem roundMagnitude_eq (n d : Nat) :
    roundMagnitude n d = min (significandOf n d + shiftOf n d * 2 ^ 23) infinityBits := rfl

/-- The quotient at the shift has at most 24 bits, and 24 of them above the least shift. -/
theorem quotient_at_shift (n d : Nat) :
    n / (d * 2 ^ shiftOf n d) < 2 ^ 24 ∧ Normal (shiftOf n d) (n / (d * 2 ^ shiftOf n d)) := by
  rw [← Nat.div_div_eq_div_mul]
  unfold shiftOf Normal
  generalize n / d = q
  have hlt : q < 2 ^ (Nat.log2 q + 1) := Nat.lt_log2_self
  rcases Nat.lt_or_ge (Nat.log2 q) 24 with hsmall | hbig
  · have h0 : Nat.log2 q - 23 = 0 := by omega
    rw [h0, pow_zero, Nat.div_one]
    exact ⟨hlt.trans_le (Nat.pow_le_pow_right (by decide) (by omega)), .inl rfl⟩
  · have hq0 : q ≠ 0 := by rintro rfl; simp at hbig
    have hle : 2 ^ Nat.log2 q ≤ q := Nat.log2_self_le hq0
    refine ⟨?_, .inr ?_⟩
    · rw [Nat.div_lt_iff_lt_mul (by positivity), ← pow_add]
      rwa [show 24 + (Nat.log2 q - 23) = Nat.log2 q + 1 by omega]
    · rw [Nat.le_div_iff_mul_le (by positivity), ← pow_add]
      rwa [show 23 + (Nat.log2 q - 23) = Nat.log2 q by omega]

/-- The significand is one at its shift. -/
theorem significandOf_normal (n d : Nat) :
    significandOf n d ≤ 2 ^ 24 ∧ Normal (shiftOf n d) (significandOf n d) := by
  obtain ⟨hlt, hn⟩ := quotient_at_shift n d
  unfold significandOf
  obtain ⟨h, -⟩ | ⟨h, -⟩ := roundHalfEven_cases n (d * 2 ^ shiftOf n d) <;> rw [h]
  · exact ⟨hlt.le, hn⟩
  · exact ⟨hlt, hn.imp_right fun h => by omega⟩

/-- The magnitude of the rounded pattern, scaled as the significand is. -/
theorem bitsValue_significand (n d : Nat) :
    bitsValue (significandOf n d + shiftOf n d * 2 ^ 23) * d =
      significandOf n d * (d * 2 ^ shiftOf n d) := by
  obtain ⟨hr, hn⟩ := significandOf_normal n d
  rw [bitsValue_normal hr hn]
  ring

/-- No pattern is nearer to `n / d` than the rounded one, and of two as near it is the even one. -/
theorem rounded_nearest {n d : Nat} (hd : 0 < d) {k : Nat}
    (hk : k ≠ significandOf n d + shiftOf n d * 2 ^ 23) :
    ((bitsValue (significandOf n d + shiftOf n d * 2 ^ 23) * d : Nat) - (n : Int)).natAbs ≤
        ((bitsValue k * d : Nat) - (n : Int)).natAbs ∧
      (((bitsValue (significandOf n d + shiftOf n d * 2 ^ 23) * d : Nat) - (n : Int)).natAbs =
          ((bitsValue k * d : Nat) - (n : Int)).natAbs →
        (significandOf n d + shiftOf n d * 2 ^ 23) % 2 = 0) := by
  have hD : 0 < d * 2 ^ shiftOf n d := by positivity
  obtain ⟨hr, hn⟩ := significandOf_normal n d
  have hval := bitsValue_normal hr hn
  have heven : significandOf n d % 2 = 0 → (significandOf n d + shiftOf n d * 2 ^ 23) % 2 = 0 := by
    omega
  by_cases hmul : shiftOf n d = 0 ∨ (shiftOf n d + 1) * 2 ^ 23 ≤ k
  · -- the magnitude of `k` is a multiple of the unit at the shift
    obtain ⟨m, hm⟩ := dvd_bitsValue hmul
    have hne : m ≠ significandOf n d := by
      rintro rfl
      exact hk (bitsValue_strictMono.injective (by rw [hm, hval, Nat.mul_comm]))
    have hscale : bitsValue k * d = m * (d * 2 ^ shiftOf n d) := by rw [hm]; ring
    rw [bitsValue_significand, hscale]
    obtain ⟨hle, htie⟩ := roundHalfEven_nearest (n := n) hD hne
    exact ⟨hle, fun h => heven (htie h)⟩
  · -- the magnitude of `k` is below 24 bits at the shift, and `n / d` is not
    obtain ⟨hpos, hlow⟩ := not_or.1 hmul
    have hq : 2 ^ 23 ≤ n / (d * 2 ^ shiftOf n d) := (quotient_at_shift n d).2.resolve_left hpos
    have hfloor : 2 ^ 23 * (d * 2 ^ shiftOf n d) ≤ n :=
      (Nat.le_div_iff_mul_le hD).1 hq
    have hk' : bitsValue k * d < 2 ^ 23 * (d * 2 ^ shiftOf n d) := by
      have hlt := bitsValue_strictMono (show k < 2 ^ 23 + shiftOf n d * 2 ^ 23 by omega)
      rw [bitsValue_normal (by omega) (.inr le_rfl)] at hlt
      calc bitsValue k * d < 2 ^ 23 * 2 ^ shiftOf n d * d := Nat.mul_lt_mul_of_pos_right hlt hd
        _ = _ := by ring
    have hle : ((significandOf n d * (d * 2 ^ shiftOf n d) : Nat) - (n : Int)).natAbs ≤
        ((2 ^ 23 * (d * 2 ^ shiftOf n d) : Nat) - (n : Int)).natAbs := by
      by_cases h : 2 ^ 23 = significandOf n d
      · rw [← h]
      · exact (roundHalfEven_nearest (n := n) hD h).1
    rw [bitsValue_significand]
    generalize bitsValue k * d = x at hk' ⊢
    generalize significandOf n d * (d * 2 ^ shiftOf n d) = y at hle ⊢
    generalize 2 ^ 23 * (d * 2 ^ shiftOf n d) = z at hfloor hk' hle
    omega

/-- The rounded significand passes the largest finite number exactly from the halfway point past it
on. -/
theorem infinityBits_le_iff {n d : Nat} (hd : 0 < d) :
    infinityBits ≤ significandOf n d + shiftOf n d * 2 ^ 23 ↔ (2 ^ 25 - 1) * 2 ^ 252 * d ≤ n := by
  obtain ⟨hr, hn⟩ := significandOf_normal n d
  obtain ⟨hq, hqn⟩ := quotient_at_shift n d
  have hD : 0 < d * 2 ^ shiftOf n d := by positivity
  obtain ⟨hup, hdown, hodd⟩ := roundHalfEven_error (n := n) hD
  rw [Nat.div_lt_iff_lt_mul hD] at hq
  rw [Normal, Nat.le_div_iff_mul_le hD] at hqn
  change 2 * n ≤ (2 * significandOf n d + 1) * _ at hup
  change 2 * significandOf n d * _ ≤ _ at hdown
  change significandOf n d % 2 = 1 → _ < (2 * significandOf n d + 1) * _ at hodd
  generalize significandOf n d = r at *
  generalize shiftOf n d = e at *
  rw [Normal] at hn
  have hinf : infinityBits = 255 * 2 ^ 23 := rfl
  rw [hinf]
  have hscale : d * 2 ^ 253 = 2 * (2 ^ 252 * d) := by ring
  rw [show (2 ^ 25 - 1) * 2 ^ 252 * d = (2 ^ 25 - 1) * (2 ^ 252 * d) from Nat.mul_assoc ..]
  rcases Nat.lt_trichotomy e 253 with he | rfl | he
  · -- below the last shift of finite numbers
    have hle : 2 ^ 24 * (d * 2 ^ e) ≤ 2 ^ 24 * (2 ^ 252 * d) := by
      rw [Nat.mul_comm d]
      gcongr
      · decide
      · omega
    refine iff_of_false (by omega) ?_
    generalize 2 ^ 252 * d = B at *
    omega
  · -- at it, a carry to 2^24 is the overflow
    rw [hscale] at hup hdown hodd
    have hB : 0 < 2 ^ 252 * d := by positivity
    generalize 2 ^ 252 * d = B at *
    constructor
    · intro h
      obtain rfl : r = 2 ^ 24 := by omega
      omega
    · intro h
      by_contra hlt
      rcases Nat.lt_or_ge r (2 ^ 24 - 1) with hr' | hr'
      · have : (2 * r + 1) * (2 * B) ≤ (2 ^ 25 - 3) * (2 * B) := by gcongr; omega
        omega
      · obtain rfl : r = 2 ^ 24 - 1 := by omega
        have := hodd (by decide)
        omega
  · -- above it everything overflows
    have hge : 2 ^ 23 * (2 ^ 254 * d) ≤ 2 ^ 23 * (d * 2 ^ e) := by
      rw [Nat.mul_comm d]
      gcongr
      · decide
      · omega
    have hn' := hqn.resolve_left (by omega)
    rw [show 2 ^ 254 * d = 4 * (2 ^ 252 * d) by ring] at hge
    refine iff_of_true (by omega) ?_
    generalize 2 ^ 252 * d = B at *
    omega

/-- The lower bits `roundMagnitude` gives are below those of an infinity, or are those. -/
theorem roundMagnitude_of_lt {n d : Nat}
    (h : significandOf n d + shiftOf n d * 2 ^ 23 < infinityBits) :
    roundMagnitude n d = significandOf n d + shiftOf n d * 2 ^ 23 := by
  rw [roundMagnitude_eq]
  exact Nat.min_eq_left h.le

/-- `roundMagnitude` overflows exactly from the halfway point on. -/
theorem roundMagnitude_eq_infinityBits_iff {n d : Nat} (hd : 0 < d) :
    roundMagnitude n d = infinityBits ↔ (2 ^ 25 - 1) * 2 ^ 252 * d ≤ n := by
  rw [← infinityBits_le_iff hd, roundMagnitude_eq, min_eq_right_iff]

/-- Below that no pattern is nearer than the one it gives, and of two as near it is the even one. -/
theorem roundMagnitude_nearest {n d : Nat} (hd : 0 < d) (hfin : roundMagnitude n d ≠ infinityBits)
    {k : Nat} (hk : k ≠ roundMagnitude n d) :
    ((bitsValue (roundMagnitude n d) * d : Nat) - (n : Int)).natAbs ≤
        ((bitsValue k * d : Nat) - (n : Int)).natAbs ∧
      (((bitsValue (roundMagnitude n d) * d : Nat) - (n : Int)).natAbs =
          ((bitsValue k * d : Nat) - (n : Int)).natAbs → roundMagnitude n d % 2 = 0) := by
  have hlt : significandOf n d + shiftOf n d * 2 ^ 23 < infinityBits := by
    rw [roundMagnitude_eq] at hfin
    by_contra h
    exact hfin (Nat.min_eq_right (Nat.not_lt.1 h))
  have heq := roundMagnitude_of_lt hlt
  rw [heq] at hk ⊢
  exact rounded_nearest hd hk

/-! ## Results with a sign -/

/-- The value of a pattern from its sign and magnitude. -/
theorem exactValue_withSign {neg : Bool} {bits : Nat} (h : bits < 2 ^ 31) :
    exactValue (withSign neg bits) = if neg then -(bitsValue bits : Int) else bitsValue bits := by
  rw [exactValue, signBit_withSign h, magnitude_eq, lowBits_withSign h]

theorem exactValue_eq (w : Word) :
    exactValue w = if signBit w then -(bitsValue (lowBits w) : Int) else bitsValue (lowBits w) := by
  rw [exactValue, magnitude_eq]

theorem natAbs_exactValue (w : Word) : (exactValue w).natAbs = magnitude w := by
  unfold exactValue; split <;> simp

theorem exactValue_negate (w : Word) : exactValue (negate w) = -exactValue w := by
  obtain ⟨hs, hl⟩ := negate_toNat w
  rw [exactValue_eq, exactValue_eq, hs, hl]
  cases signBit w <;> simp

/-- The distance of a signed value from a signed quotient, with the sign of the quotient taken out. -/
theorem natAbs_sub_of_sign {x n : Int} {d : Nat} (neg : Bool) (hn : n = if neg then -(n.natAbs : Int)
    else n.natAbs) : (x * d - n).natAbs = ((if neg then -x else x) * d - n.natAbs).natAbs := by
  cases neg
  · simp only [Bool.false_eq_true, if_false] at hn ⊢
    rw [← hn]
  · simp only [if_true] at hn ⊢
    rw [← Int.natAbs_neg]
    congr 1
    generalize (n.natAbs : Int) = m at *
    subst hn
    ring

/-- A number is its magnitude with its sign. -/
theorem eq_sign_natAbs {n : Int} {neg : Bool} (hneg : n ≠ 0 → neg = decide (n < 0)) :
    n = if neg then -(n.natAbs : Int) else n.natAbs := by
  by_cases h0 : n = 0
  · simp [h0]
  rw [hneg h0]
  by_cases h : n < 0 <;> simp only [h, decide_true, decide_false, if_true, Bool.false_eq_true,
    if_false] <;> omega

/-- Among values of either sign none is nearer than the rounded magnitude. -/
theorem rounded_nearest_signed {m d : Nat} (hd : 0 < d) (hfin : roundMagnitude m d ≠ infinityBits)
    {x : Int} {k : Nat} (hx : x = bitsValue k ∨ x = -(bitsValue k : Int))
    (hne : x ≠ bitsValue (roundMagnitude m d)) :
    ((bitsValue (roundMagnitude m d) : Int) * d - m).natAbs ≤ (x * d - m).natAbs ∧
      (((bitsValue (roundMagnitude m d) : Int) * d - m).natAbs = (x * d - m).natAbs →
        roundMagnitude m d % 2 = 0) := by
  by_cases hpos : x = bitsValue k
  · have hk : k ≠ roundMagnitude m d := by rintro rfl; exact hne hpos
    have h := roundMagnitude_nearest hd hfin hk
    rw [hpos]
    push_cast at h
    exact h
  · -- a value of the other sign is farther than zero is
    have hx := hx.resolve_left hpos
    have hval : 0 < bitsValue k := Nat.pos_of_ne_zero fun h0 => hpos (by rw [hx, h0]; rfl)
    have hfar : m < (x * d - m).natAbs := by
      have : 0 < bitsValue k * d := Nat.mul_pos hval hd
      rw [hx, show -(bitsValue k : Int) * d - m = -((bitsValue k * d + m : Nat) : Int) by
        push_cast; ring]
      omega
    have hnear : ((bitsValue (roundMagnitude m d) : Int) * d - m).natAbs ≤ m := by
      by_cases h0 : 0 = roundMagnitude m d
      · rw [← h0, bitsValue_zero]
        simp
      · have h := (roundMagnitude_nearest hd hfin h0).1
        rw [bitsValue_zero] at h
        push_cast at h
        simpa using h
    exact ⟨by omega, by omega⟩

/-- The pattern with the sign of `n` and the rounded magnitude of `n / d` is `n / d` rounded. -/
theorem roundsTo_withSign {n : Int} {d : Nat} (hd : 0 < d) {neg : Bool}
    (hneg : n ≠ 0 → neg = decide (n < 0)) :
    RoundsTo (withSign neg (roundMagnitude n.natAbs d)) n d := by
  have hle := roundMagnitude_le n.natAbs d
  have hlt : roundMagnitude n.natAbs d < 2 ^ 31 := lt_of_le_of_lt hle (by decide)
  have hlow := lowBits_withSign (neg := neg) hlt
  have hinf : isInfinite (withSign neg (roundMagnitude n.natAbs d)) = true ↔
      roundMagnitude n.natAbs d = infinityBits := by rw [isInfinite_iff, hlow]
  refine ⟨isNaN_withSign hle, hinf.trans (roundMagnitude_eq_infinityBits_iff hd),
    fun h0 => (signBit_withSign hlt).trans (hneg h0), fun hfin w _ hne => ?_⟩
  have hfin' : roundMagnitude n.natAbs d ≠ infinityBits := fun h => by
    rw [hinf.2 h] at hfin
    cases hfin
  have hfrac : fractionField (withSign neg (roundMagnitude n.natAbs d)) % 2 =
      roundMagnitude n.natAbs d % 2 := by
    rw [fractionField_eq, hlow]
    omega
  have hr : (if neg then -exactValue (withSign neg (roundMagnitude n.natAbs d))
      else exactValue (withSign neg (roundMagnitude n.natAbs d))) =
      (bitsValue (roundMagnitude n.natAbs d) : Int) := by
    rw [exactValue_withSign hlt]
    cases neg <;> simp
  have hx : (if neg then -exactValue w else exactValue w) = bitsValue (lowBits w) ∨
      (if neg then -exactValue w else exactValue w) = -(bitsValue (lowBits w) : Int) := by
    rw [exactValue_eq]
    cases neg <;> cases signBit w <;> simp
  have hxne : (if neg then -exactValue w else exactValue w) ≠
      (bitsValue (roundMagnitude n.natAbs d) : Int) := by
    rw [← hr]
    cases neg <;> simpa using hne
  have hn := eq_sign_natAbs hneg
  dsimp only
  rw [natAbs_sub_of_sign (x := exactValue w) neg hn, natAbs_sub_of_sign neg hn, hr, hfrac]
  exact rounded_nearest_signed hd hfin' hx hxne

/-! ## The operations on finite operands -/

section Finite
variable {a b : Word}

theorem finite_of_exponentField (h : exponentField a ≠ 255) :
    isNaN a = false ∧ isInfinite a = false := by
  simp [isNaN, isInfinite, h]

theorem exponentField_negate (a : Word) : exponentField (negate a) = exponentField a := by
  rw [exponentField_eq, exponentField_eq, (negate_toNat a).2]

theorem ieeeSum_finite (op : FpOp) (x y : Word) (ha : exponentField a ≠ 255)
    (hb : exponentField b ≠ 255) : ieeeSum op x y a b = finiteSum a b := by
  obtain ⟨ha, hia⟩ := finite_of_exponentField ha
  obtain ⟨hb, hib⟩ := finite_of_exponentField hb
  simp [ieeeSum, ha, hia, hb, hib]

theorem ieeeMul_finite (ha : exponentField a ≠ 255) (hb : exponentField b ≠ 255) :
    ieeeMul a b = withSign (signBit a != signBit b)
      (roundMagnitude (magnitude a * magnitude b) (2 ^ 149)) := by
  obtain ⟨ha, hia⟩ := finite_of_exponentField ha
  obtain ⟨hb, hib⟩ := finite_of_exponentField hb
  unfold ieeeMul
  simp only [ha, hia, hb, hib, Bool.or_self, Bool.false_eq_true, if_false]

theorem ieeeDiv_finite (ha : exponentField a ≠ 255) (hb : exponentField b ≠ 255) :
    (magnitude b ≠ 0 → ieeeDiv a b = withSign (signBit a != signBit b)
      (roundMagnitude (magnitude a * 2 ^ 149) (magnitude b))) ∧
    (magnitude b = 0 → magnitude a ≠ 0 → ieeeDiv a b = infinity (signBit a != signBit b)) := by
  obtain ⟨ha, hia⟩ := finite_of_exponentField ha
  obtain ⟨hb, hib⟩ := finite_of_exponentField hb
  unfold ieeeDiv
  simp only [ha, hia, hb, hib, Bool.or_self, Bool.false_eq_true, if_false]
  constructor
  · intro h0
    rw [if_neg h0]
  · intro h0 h
    rw [if_pos h0, if_neg h]

/-- The sum of finite numbers is the exact one rounded, and a zero has the sign of log 6. -/
theorem finiteSum_spec (a b : Word) :
    RoundsTo (finiteSum a b) (exactValue a + exactValue b) 1 ∧
    (exactValue a + exactValue b = 0 →
      finiteSum a b = withSign (signBit a && signBit b) 0) := by
  unfold finiteSum
  dsimp only
  by_cases h0 : exactValue a + exactValue b = 0
  · rw [if_pos h0]
    have h := roundsTo_withSign (n := exactValue a + exactValue b) (d := 1) (by decide)
      (neg := signBit a && signBit b) (fun hn => absurd h0 hn)
    rw [h0] at h ⊢
    exact ⟨h, fun _ => rfl⟩
  · rw [if_neg h0]
    exact ⟨roundsTo_withSign (by decide) fun _ => rfl, fun h => absurd h h0⟩

/-- The sign of a number that is not zero. -/
theorem exactValue_neg_iff (h : exactValue a ≠ 0) : exactValue a < 0 ↔ signBit a = true := by
  unfold exactValue at h ⊢
  split
  · next hs => rw [if_pos hs] at h; simp only [hs, iff_true]; omega
  · next hs => rw [if_neg hs] at h; simp only [hs, Bool.false_eq_true, iff_false]; omega

/-- The sign of a product. -/
theorem sign_mul {x y : Int} (hx : x ≠ 0) (hy : y ≠ 0) :
    decide (x * y < 0) = (decide (x < 0) != decide (y < 0)) := by
  rcases lt_or_gt_of_ne hx with h1 | h1 <;> rcases lt_or_gt_of_ne hy with h2 | h2
  · simp [h1, h2, (mul_pos_of_neg_of_neg h1 h2).le]
  · simp [h1, h2.le, mul_neg_of_neg_of_pos h1 h2]
  · simp [h1.le, h2, mul_neg_of_pos_of_neg h1 h2]
  · simp [not_lt.2 h1.le, not_lt.2 h2.le, not_lt.2 (mul_pos h1 h2).le]

theorem signBit_eq_decide (h : exactValue a ≠ 0) : signBit a = decide (exactValue a < 0) := by
  rw [Bool.eq_iff_iff, decide_eq_true_iff, exactValue_neg_iff h]

theorem ieeeMul_roundsTo (ha : exponentField a ≠ 255) (hb : exponentField b ≠ 255) :
    RoundsTo (ieeeMul a b) (exactValue a * exactValue b) (2 ^ 149) := by
  have hn : magnitude a * magnitude b = (exactValue a * exactValue b).natAbs := by
    rw [Int.natAbs_mul, natAbs_exactValue, natAbs_exactValue]
  rw [ieeeMul_finite ha hb, hn]
  refine roundsTo_withSign (by positivity) fun h0 => ?_
  obtain ⟨ha0, hb0⟩ := mul_ne_zero_iff.1 h0
  rw [sign_mul ha0 hb0, ← signBit_eq_decide ha0, ← signBit_eq_decide hb0]

theorem ieeeDiv_roundsTo (ha : exponentField a ≠ 255) (hb : exponentField b ≠ 255)
    (hb0 : magnitude b ≠ 0) : RoundsTo (ieeeDiv a b)
      ((if signBit b then -exactValue a else exactValue a) * 2 ^ 149) (magnitude b) := by
  have hn : magnitude a * 2 ^ 149 =
      ((if signBit b then -exactValue a else exactValue a) * 2 ^ 149).natAbs := by
    rw [Int.natAbs_mul, ← natAbs_exactValue]
    split
    · rw [Int.natAbs_neg]; rfl
    · rfl
  rw [(ieeeDiv_finite ha hb).1 hb0, hn]
  refine roundsTo_withSign (Nat.pos_of_ne_zero hb0) fun h0 => ?_
  have ha0 : exactValue a ≠ 0 := by
    rintro h
    simp [h] at h0
  have hneg (x : Int) : x * 2 ^ 149 < 0 ↔ x < 0 := by omega
  rw [signBit_eq_decide ha0]
  simp only [hneg]
  cases signBit b
  · simp
  · by_cases h : exactValue a < 0 <;> simp [h] <;> omega

end Finite

/-- Settles O59: `roundMagnitude` by `roundMagnitude_nearest`, and each operation on finite operands as
the rounding of its exact result. -/
theorem roundingIsToNearestEven : Obligations.RoundingIsToNearestEven := by
  refine ⟨?_, fun a b ha hb => ?_⟩
  · rintro n d _ hd rfl
    have hmag {k : Nat} (hk : k < 2 ^ 31) : magnitude (BitVec.ofNat 32 k) = bitsValue k := by
      have hw : BitVec.ofNat 32 k = withSign false k := by simp [withSign]
      rw [magnitude_eq, hw, lowBits_withSign hk]
    have hle := roundMagnitude_le n d
    have hinf : infinityBits < 2 ^ 31 := by decide
    refine ⟨roundMagnitude_eq_infinityBits_iff hd, fun hfin => ⟨by omega, fun k hk hne => ?_⟩⟩
    rw [hmag (hk.trans hinf), hmag (by omega)]
    exact roundMagnitude_nearest hd hfin hne
  · have hnb : exponentField (negate b) ≠ 255 := exponentField_negate b ▸ hb
    have hadd : ieeeAdd a b = finiteSum a b := ieeeSum_finite .add a b ha hb
    have hsub : ieeeSub a b = finiteSum a (negate b) := ieeeSum_finite .sub a b ha hnb
    obtain ⟨hsum, hsum0⟩ := finiteSum_spec a b
    obtain ⟨hdiff, hdiff0⟩ := finiteSum_spec a (negate b)
    rw [exactValue_negate, ← sub_eq_add_neg] at hdiff hdiff0
    rw [(negate_toNat b).1] at hdiff0
    have hlt (n d : Nat) : roundMagnitude n d < 2 ^ 31 :=
      lt_of_le_of_lt (roundMagnitude_le n d) (by decide)
    rw [hadd, hsub]
    refine ⟨hsum, hdiff, ieeeMul_roundsTo ha hb, ieeeDiv_roundsTo ha hb, fun hb0 ha0 => ?_,
      fun h0 => ?_, fun h0 => ?_, ?_, fun hb0 => ?_⟩
    · rw [(ieeeDiv_finite ha hb).2 hb0 ha0]
      cases signBit a <;> cases signBit b <;> rfl
    · rw [hsum0 h0]
      cases signBit a <;> cases signBit b <;> rfl
    · rw [hdiff0 h0]
      cases signBit a <;> cases signBit b <;> rfl
    · rw [ieeeMul_finite ha hb, signBit_withSign (hlt _ _)]
    · rw [(ieeeDiv_finite ha hb).1 hb0, signBit_withSign (hlt _ _)]

end Sys2Proof.Machine
end

section
/-! SUPPORT. What is left to do of the instructions in flight (45_pipeline_stages.md section 7 item 7):
the part of the state instructions act on, and the effect on it of finishing the record in a latch from
the stage that reads the latch on. Each is the model's own function of the stage, on a machine with
nothing else in it. -/

namespace Sys2Proof.Machine

/-! ## The architectural state -/

/-- The part of the state that instructions act on. -/
structure Arch where
  gp : Vector Word 32
  fp : Vector Word 32
  dmem : Memory
  pending : Bool
  target : Word

def State.arch (s : State) : Arch := ⟨s.gp, s.fp, s.dmem, s.branchPending, s.branchTarget⟩

/-- A machine with this architectural state and nothing in the pipeline. -/
def Arch.state (A : Arch) (cfg : Config) : State :=
  { construct cfg with
    gp := A.gp, fp := A.fp, dmem := A.dmem, branchPending := A.pending, branchTarget := A.target }

/-- The redirect set to these values. -/
def Arch.redirected (A : Arch) (pending : Bool) (target : Word) : Arch :=
  { A with pending := pending, target := target }

@[simp] theorem Arch.state_arch (A : Arch) (cfg : Config) : (A.state cfg).arch = A := rfl

@[simp] theorem Arch.redirected_redirected (A : Arch) (p p' : Bool) (q q' : Word) :
    (A.redirected p q).redirected p' q' = A.redirected p' q' := rfl

/-- The value of a register that exists. -/
def Arch.readReg (A : Arch) (x : RegFile × Reg) : Word :=
  match x.1 with
  | .INT => A.gp[x.2.val]
  | .FP => A.fp[x.2.val]

theorem readReg_arch (s : State) (x : RegFile × Reg) : s.arch.readReg x = s.readReg x := rfl

theorem arch_eq_iff {s t : State} : s.arch = t.arch ↔ s.gp = t.gp ∧ s.fp = t.fp ∧ s.dmem = t.dmem ∧
    s.branchPending = t.branchPending ∧ s.branchTarget = t.branchTarget := by
  simp [State.arch]

/-! ## What each stage depends on -/

/-- The effect of WB depends on the architectural state and `MEMWB`. -/
theorem wbEffect_congr {s t : State} (ha : s.arch = t.arch) (hw : s.memwb = t.memwb) (i : Instr) :
    (wbEffect s i).arch = (wbEffect t i).arch := by
  obtain ⟨h1, h2, h3, h4, h5⟩ := arch_eq_iff.1 ha
  cases i <;> simp [wbEffect, State.arch, h1, h2, h3, h4, h5, hw]

/-- The effect of WB leaves the redirect and data memory, and does not read them. -/
theorem wbEffect_redirected (s : State) (p : Bool) (q : Word) (i : Instr) :
    (wbEffect { s with branchPending := p, branchTarget := q } i).arch =
      (wbEffect s i).arch.redirected p q := by
  cases i <;> rfl

/-- MEM's access as a function of what it reads: data memory and `MEMWB` after it, `none` outside data
memory (R158). -/
def accessed (cfg : Config) (d : Memory) (x : Latch) : Opcode → Option (Memory × Latch)
  | .LW | .LWS =>
    if inDataMemory cfg x.aluOutput then
      some (d, { bubble with ir := x.ir, lmd := d.readWord x.aluOutput.toNat })
    else none
  | .SW | .SWS =>
    if inDataMemory cfg x.aluOutput then
      some (d.writeWord x.aluOutput.toNat x.b, { bubble with ir := x.ir })
    else none
  | .ADD | .ADDI | .SUB | .SUBI | .XOR | .BEQZ | .BNEZ | .BLTZ | .BGTZ | .BLEZ | .BGEZ | .JUMP
  | .EOP | .NOP | .ADDS | .SUBS | .MULTS | .DIVS =>
    some (d, { bubble with ir := x.ir, aluOutput := x.aluOutput })

/-- MEM changes data memory and `MEMWB`, to what the access says, and nothing else. -/
theorem memAccess_eq (s : State) (o : Opcode) :
    memAccess s o = (accessed s.cfg s.dmem s.exmem o).elim
      (.fault (.dataAddressOutOfRange s.exmem.aluOutput))
      fun p => .next { s with dmem := p.1, memwb := p.2 } := by
  cases o
  case LW | LWS =>
    simp only [memAccess, State.loadAccess, accessed]
    split <;> rfl
  case SW | SWS =>
    simp only [memAccess, State.storeAccess, accessed]
    split <;> rfl
  all_goals rfl

theorem accessed_ir {cfg : Config} {d : Memory} {x : Latch} {o : Opcode} {p : Memory × Latch}
    (h : accessed cfg d x o = some p) : p.2.ir = x.ir := by
  cases o
  case LW | LWS | SW | SWS =>
    simp only [accessed] at h
    split at h <;> cases h
    rfl
  all_goals
    cases h
    rfl

/-- The redirect EX leaves, as a function of what it reads (R163). -/
def resolve (cfg : Config) (x : Latch) (o : Opcode) (A : Arch) : Arch :=
  match takenOf x.a o with
  | some true => A.redirected true (aluOf cfg x o)
  | some false => A.redirected false A.target
  | none => A

theorem resolved_arch (s : State) (o : Opcode) :
    (resolved s o).arch = resolve s.cfg s.idex o s.arch := by
  unfold resolved resolve
  rcases takenOf s.idex.a o with _ | _ | _ <;> rfl

theorem resolve_of_takenOf_none {cfg : Config} {x : Latch} {o : Opcode} {A : Arch}
    (h : takenOf x.a o = none) : resolve cfg x o A = A := by
  rw [resolve, h]

/-- EX of two machines with the same redirect leaves them the same one. -/
theorem resolve_eq_redirected {cfg : Config} {x : Latch} {o : Opcode} {A B : Arch}
    (hp : A.pending = B.pending) (ht : A.target = B.target) :
    resolve cfg x o A = A.redirected (resolve cfg x o B).pending (resolve cfg x o B).target := by
  unfold resolve
  split
  · rfl
  · rw [ht]; rfl
  · rw [← hp, ← ht]; rfl

/-! ## Finishing the record in a latch -/

section Finish
variable (cfg : Config)

/-- WB of the record in `MEMWB`. -/
def retire (w : Latch) (A : Arch) : Arch :=
  (wbEffect { A.state cfg with memwb := w } (Decoded.ends (decodeRecord cfg.hasFp w.ir))).arch

/-- MEM of the record in `EXMEM`, then its WB; `none` if the access is outside data memory. -/
def finishMem (x : Latch) (A : Arch) : Option Arch :=
  (accessed cfg A.dmem x ((x.ir.op cfg.hasFp).getD .EOP)).map
    fun p => retire cfg p.2 { A with dmem := p.1 }

/-- EX of the record in `IDEX`, then its MEM and WB. -/
def finishEx (x : Latch) (A : Arch) : Option Arch :=
  finishMem cfg (exmemOf cfg x ((x.ir.op cfg.hasFp).getD .EOP))
    (resolve cfg x ((x.ir.op cfg.hasFp).getD .EOP) A)

/-- ID of the record in `IFID`, then its EX, MEM and WB. -/
def finishId (f : Latch) (A : Arch) : Option Arch :=
  finishEx cfg
    (idexOf { A.state cfg with ifid := f } (Decoded.middle (decodeRecord cfg.hasFp f.ir))) A

end Finish

/-- The architectural state once every instruction in flight is finished, the oldest first. -/
def flush (s : State) : Option Arch :=
  ((finishMem s.cfg s.exmem (retire s.cfg s.memwb s.arch)).bind (finishEx s.cfg s.idex)).bind
    (finishId s.cfg s.ifid)

section Laws
variable {cfg : Config} {x w : Latch} {A B : Arch}

theorem retire_redirected (p : Bool) (q : Word) :
    retire cfg w (A.redirected p q) = (retire cfg w A).redirected p q :=
  wbEffect_redirected { A.state cfg with memwb := w } p q _

/-- WB of the record in a latch changes the register its instruction writes. -/
theorem retire_readReg {y : RegFile × Reg}
    (hy : target (Decoded.ends (decodeRecord cfg.hasFp w.ir)) ≠ some y) :
    (retire cfg w A).readReg y = A.readReg y :=
  wbEffect_readReg _ _ hy

theorem retire_keeps : (retire cfg w A).dmem = A.dmem ∧ (retire cfg w A).pending = A.pending ∧
    (retire cfg w A).target = A.target := by
  unfold retire
  cases Decoded.ends (decodeRecord cfg.hasFp w.ir) <;> exact ⟨rfl, rfl, rfl⟩

/-- A bubble in `MEMWB` has nothing left to do. -/
theorem retire_of_nop (h : w.ir = nopRec) : retire cfg w A = A := by
  rw [retire, h, decode_nopRec]
  rfl

/-- MEM and WB do not read the redirect. -/
theorem finishMem_redirected (p : Bool) (q : Word) :
    finishMem cfg x (A.redirected p q) = (finishMem cfg x A).map fun B => B.redirected p q := by
  rw [finishMem, finishMem, Option.map_map]
  exact Option.map_congr fun r _ => retire_redirected (A := { A with dmem := r.1 }) p q

/-- What MEM and WB leave of the redirect and of the registers. -/
theorem finishMem_frame (h : finishMem cfg x A = some B) :
    B.pending = A.pending ∧ B.target = A.target ∧
      ∀ y, Machine.target (Decoded.ends (decodeRecord cfg.hasFp x.ir)) ≠ some y →
        B.readReg y = A.readReg y := by
  obtain ⟨p, hp, rfl⟩ := Option.map_eq_some_iff.1 h
  obtain ⟨-, hpending, htarget⟩ := retire_keeps (cfg := cfg) (w := p.2) (A := { A with dmem := p.1 })
  exact ⟨hpending, htarget, fun y hy => retire_readReg (accessed_ir hp ▸ hy)⟩

theorem finishMem_of_nop (h : x.ir = nopRec) : finishMem cfg x A = some A := by
  have hop : (x.ir.op cfg.hasFp).getD .EOP = .NOP := by rw [h, nopRec_op]; rfl
  rw [finishMem, hop]
  exact congrArg some (retire_of_nop h)

/-- The opcode of a record that is no branch leaves the redirect. -/
theorem takenOf_of_not_branch {b : Bool} {r : Record} (h : isBranch b r = false) (a : Word) :
    takenOf a ((r.op b).getD .EOP) = none := by
  have hb := isBranch_eq_takenOf (b := b) (r := r) a
  rw [h] at hb
  exact Option.isSome_eq_false_iff.1 hb.symm |> Option.isNone_iff_eq_none.1

theorem finishEx_of_not_branch (h : isBranch cfg.hasFp x.ir = false) (A : Arch) :
    finishEx cfg x A = finishMem cfg (exmemOf cfg x ((x.ir.op cfg.hasFp).getD .EOP)) A := by
  rw [finishEx, resolve_of_takenOf_none (takenOf_of_not_branch h _)]

theorem finishEx_of_nop (h : x.ir = nopRec) : finishEx cfg x A = some A := by
  rw [finishEx_of_not_branch (by simp [h, isBranch])]
  exact finishMem_of_nop ((exmemOf_ir ..).trans h)

/-- EX, MEM and WB of a record that is no branch do not read the redirect. -/
theorem finishEx_redirected (h : isBranch cfg.hasFp x.ir = false) (p : Bool) (q : Word) :
    finishEx cfg x (A.redirected p q) = (finishEx cfg x A).map fun B => B.redirected p q := by
  rw [finishEx_of_not_branch h, finishEx_of_not_branch h, finishMem_redirected]

/-- What EX, MEM and WB leave of the registers. -/
theorem finishEx_readReg (h : finishEx cfg x A = some B) {y : RegFile × Reg}
    (hy : target (Decoded.ends (decodeRecord cfg.hasFp x.ir)) ≠ some y) :
    B.readReg y = A.readReg y := by
  obtain ⟨-, -, hread⟩ := finishMem_frame h
  rw [hread y (by rwa [exmemOf_ir])]
  unfold resolve
  split <;> rfl

theorem finishId_of_nop (h : x.ir = nopRec) : finishId cfg x A = some A :=
  finishEx_of_nop ((idexOf_ir ..).trans h)

end Laws

/-! ## The stages of a cycle as parts of finishing -/

section Stages
variable {s s1 s2 u : State}

theorem wbStage_arch (h : wbStage s = .next s1) : s1.arch = retire s.cfg s.memwb s.arch := by
  rw [wbStage, execRecord_WB] at h
  split at h
  · obtain rfl := Host.Outcome.next.inj h
    exact wbEffect_congr (s := s.atStage .WB)
      (t := { s.arch.state s.cfg with memwb := s.memwb }) rfl rfl _
  · cases h

/-- MEM in a cycle, and WB of what it leaves in `MEMWB`. -/
theorem memStage_finish (h : memStage s = .next s2) {A : Arch} (hd : A.dmem = s.dmem) :
    finishMem s.cfg s.exmem A = some (retire s.cfg s2.memwb { A with dmem := s2.dmem }) := by
  have hx : ((memProceed s).atStage .MEM).exmem = s.exmem ∧
      ((memProceed s).atStage .MEM).cfg = s.cfg ∧ ((memProceed s).atStage .MEM).dmem = s.dmem := by
    unfold memProceed; split <;> exact ⟨rfl, rfl, rfl⟩
  rw [memStage_eq] at h
  split at h
  · rw [memAccess_eq] at h
    generalize (memProceed s).atStage .MEM = m at hx h
    obtain ⟨hx, hc, hm⟩ := hx
    rw [hx, hc, hm] at h
    rw [finishMem, hd]
    cases hacc : accessed s.cfg s.dmem s.exmem ((s.exmem.ir.op s.cfg.hasFp).getD .EOP) with
    | none =>
      rw [hacc] at h
      cases h
    | some p =>
      rw [hacc] at h
      obtain rfl := Host.Outcome.next.inj h
      rfl
  · cases h

/-- The redirect EX leaves in a cycle. -/
theorem exStage_arch (h : exStage (acquireUnit s) = .next u) :
    u.arch = resolve s.cfg s.idex ((s.idex.ir.op s.cfg.hasFp).getD .EOP) s.arch := by
  obtain ⟨us, held, ha⟩ := acquireUnit_frame s
  obtain ⟨held', hr⟩ := releaseUnit_frame { s with units := us, exUnit := held }
  rw [exStage_eq, ha, hr] at h
  split at h
  · obtain rfl := Host.Outcome.next.inj h
    exact resolved_arch ..
  · cases h

/-- EX in a cycle, and MEM and WB of what it leaves in `EXMEM`. -/
theorem exStage_finish (h : exStage (acquireUnit s) = .next u) {A : Arch}
    (hp : A.pending = s.branchPending) (ht : A.target = s.branchTarget) :
    finishEx s.cfg s.idex A =
      finishMem s.cfg u.exmem (A.redirected u.branchPending u.branchTarget) := by
  have hu := exStage_arch h
  have hpu : u.branchPending = _ := congrArg Arch.pending hu
  have htu : u.branchTarget = _ := congrArg Arch.target hu
  rw [finishEx, ← exStage_exmem h, hpu, htu, ← resolve_eq_redirected hp ht]

end Stages

end Sys2Proof.Machine
end

section
/-! SUPPORT. The pipeline preserves the sequential reading of its program (45_pipeline_stages.md section 7
item 7). The simulation relates a state to the one in which everything in flight is finished: a cycle
that fetches nothing leaves that one as it is, and a cycle that fetches a record runs it there alone. -/

namespace Sys2Proof.Machine

/-! ## Operands without forwarding -/

/-- The record in a latch writes a register that the record in `IFID` reads. -/
def Conflict (s : State) (r : Record) : Prop := RowApplies rowOneProducer s.cfg.hasFp r s.ifid.ir

/-- What a stall in progress knows of the hazards of the record in `IFID`: a RAW stall lasts until the
producers have been written back, a BRANCH stall is set when there are none. -/
def HazardInv (s : State) : Prop :=
  (s.stallKind = .RAW →
    (Conflict s s.idex.ir → s.stallRem = 2) ∧ (Conflict s s.exmem.ir → 1 ≤ s.stallRem)) ∧
  (s.stallKind = .BRANCH → ¬ Conflict s s.idex.ir ∧ ¬ Conflict s s.exmem.ir)

theorem rowThree_of_rowOne {b : Bool} {r : Record} (h : rowOneProducer b r = true) :
    rowThreeProducer b r = true := by
  unfold rowOneProducer at h
  unfold rowThreeProducer
  cases ho : r.op b with
  | none => rfl
  | some o => cases o <;> simp_all

theorem not_rowOne_nopRec (b : Bool) (c : Record) : ¬ RowApplies rowOneProducer b nopRec c :=
  fun h => absurd h.1 (by simp [rowOneProducer])

theorem not_rowOne_of_no_srcs {b : Bool} {p c : Record} (h : srcs b c = []) :
    ¬ RowApplies rowOneProducer b p c := fun hr => absurd hr.2 (by simp [matchesSrc, h])

section Hazard
variable {s t : State} {frozen : Bool} {k : StallKind} {r z : Nat} {w : Word}

/-- No count means no conflict with the two latches whose writes are still to come. -/
theorem no_conflict_of_raw
    (h : raw s.cfg.hasFp s.ifid.ir s.idex.ir s.exmem.ir s.memwb.ir = 0) :
    ¬ Conflict s s.idex.ir ∧ ¬ Conflict s s.exmem.ir := by
  obtain ⟨h1, h3, -⟩ := raw_eq_zero_iff.1 h
  exact ⟨h1, fun hc => h3 ⟨rowThree_of_rowOne hc.1, hc.2⟩⟩

/-- A stall that has run out leaves no conflict. -/
theorem HazardInv.spent (h : HazardInv s) (busy : s.stallKind ≠ .NONE) (spent : s.stallRem = 0) :
    ¬ Conflict s s.idex.ir ∧ ¬ Conflict s s.exmem.ir := by
  cases hk : s.stallKind with
  | NONE => exact absurd hk busy
  | BRANCH => exact h.2 hk
  | RAW =>
    obtain ⟨hx, hm⟩ := h.1 hk
    exact ⟨fun hc => by have := hx hc; omega, fun hc => by have := hm hc; omega⟩

/-- What the handler leaves: a RAW stall long enough for the conflicts, or no conflict. -/
theorem StallTo.hazard (h : StallTo s frozen k r z w) (hz : HazardInv s) :
    (k = .RAW → (Conflict s s.idex.ir → r = 2) ∧ (Conflict s s.exmem.ir → 1 ≤ r)) ∧
    (k ≠ .RAW → ¬ Conflict s s.idex.ir ∧ ¬ Conflict s s.exmem.ir) := by
  cases h with
  | setRaw idle count pos =>
    exact ⟨fun _ => ⟨fun hc => count ▸ raw_of_rowOne hc, fun _ => pos⟩, fun hn => absurd rfl hn⟩
  | setBranch idle count br => exact ⟨nofun, fun _ => no_conflict_of_raw count⟩
  | idle idle count br => exact ⟨nofun, fun _ => no_conflict_of_raw count⟩
  | held busy left =>
    refine ⟨hz.1, fun hn => hz.2 ?_⟩
    cases hk : s.stallKind with
    | NONE => exact absurd hk busy
    | RAW => exact absurd hk hn
    | BRANCH => rfl
  | releaseBranch busy go spent br => exact ⟨nofun, fun _ => hz.spent busy spent⟩
  | release busy go spent br => exact ⟨nofun, fun _ => hz.spent busy spent⟩

/-- Every cycle keeps it. -/
theorem CycleTo.hazardInv (h : CycleTo s t) (hz : HazardInv s) : HazardInv t := by
  obtain ⟨hraw, hnot⟩ := (stallTo s true).hazard hz
  obtain ⟨hraw', -⟩ := (stallTo s false).hazard hz
  have hnop (r : Record) : ¬ RowApplies rowOneProducer s.cfg.hasFp nopRec r := not_rowOne_nopRec _ r
  cases h with
  | memWait wb wait =>
    exact ⟨hraw, fun hk => hnot fun hr => absurd (hk.symm.trans hr) (by decide)⟩
  | exWait wb go mem busy =>
    exact ⟨fun hk => ⟨(hraw hk).1, fun hc => absurd hc (hnop _)⟩,
      fun hk => ⟨(hnot fun hr => absurd (hk.symm.trans hr) (by decide)).1, hnop _⟩⟩
  | @raw s1 s2 u back kind =>
    have hx : RowApplies rowOneProducer s.cfg.hasFp u.exmem.ir s.ifid.ir →
        1 ≤ (hazardHandler s false s).stallRem - 1 := fun hc => by
      have := (hraw' kind).1 (exStage_ir back.ex ▸ hc)
      omega
    exact ⟨fun _ => ⟨fun hc => absurd hc (hnop _), hx⟩,
      fun hk => absurd (kind.symm.trans hk) (by decide)⟩
  | branch back kind =>
    have hb (p : Record) : ¬ RowApplies rowOneProducer s.cfg.hasFp p nopRec :=
      not_rowOne_of_no_srcs (by simp [srcs])
    exact ⟨fun hk => absurd (kind.symm.trans hk) (by decide), fun _ => ⟨hb _, hb _⟩⟩
  | drain back kind | fetch back kind =>
    exact ⟨fun hk => absurd (kind.symm.trans hk) (by decide),
      fun hk => absurd (kind.symm.trans hk) (by decide)⟩

end Hazard

/-- A register that the record in `IFID` reads is none that a record without a conflict writes. -/
theorem target_ne_of_no_conflict {s : State} {r : Record} (h : ¬ Conflict s r) {y : RegFile × Reg}
    (hy : regName y ∈ srcs s.cfg.hasFp s.ifid.ir) :
    target (Decoded.ends (decodeRecord s.cfg.hasFp r)) ≠ some y := fun ht => by
  obtain ⟨hname, h1, -⟩ := target_of_ends _ _ y ht
  exact h ⟨h1, by simpa [matchesSrc, ← hname] using hy⟩

/-- ID in a cycle reads what it would read once the instructions ahead are finished. -/
theorem decodedLatch_finished {s s1 : State} {A B : Arch} (wb : wbStage s = .next s1)
    (hx : ¬ Conflict s s.idex.ir) (hm : ¬ Conflict s s.exmem.ir)
    (hA : finishMem s.cfg s.exmem (retire s.cfg s.memwb s.arch) = some A)
    (hB : finishEx s.cfg s.idex A = some B) :
    finishId s.cfg s.ifid B = finishEx s.cfg (decodedLatch s1 s) B := by
  rw [← wbStage_arch wb] at hA
  have hread {y : RegFile × Reg} (hy : regName y ∈ srcs s.cfg.hasFp s.ifid.ir) :
      B.readReg y = s1.arch.readReg y := by
    rw [finishEx_readReg hB (target_ne_of_no_conflict hx hy),
      (finishMem_frame hA).2.2 y (target_ne_of_no_conflict hm hy)]
  obtain ⟨hsA, hsB⟩ := sources_of_middle s.cfg.hasFp s.ifid.ir
  rw [finishId, decodedLatch]
  congr 1
  exact idexOf_congr_sources (s := { B.state s.cfg with ifid := s.ifid }) (t := afterWb s1 s) rfl
    (fun y hy => hread (hsA y hy)) fun y hy => hread (hsB y hy)

/-! ## A cycle and what is left to do -/

/-- The two ways an unfrozen cycle's WB, MEM and EX and their finishing agree. -/
theorem BackEnd.finish {s s1 s2 u : State} (back : BackEnd s s1 s2 u) :
    ∃ A, finishMem s.cfg s.exmem (retire s.cfg s.memwb s.arch) = some A ∧
      finishEx s.cfg s.idex A =
        finishMem s.cfg u.exmem (A.redirected u.branchPending u.branchTarget) ∧
      ∀ p q, retire s.cfg s2.memwb ⟨s1.gp, s1.fp, s2.dmem, p, q⟩ = A.redirected p q := by
  have h1 := wbStage_arch back.wb
  have hw := wbStage_eq_afterWb back.wb
  have hd : s1.dmem = s.dmem := by rw [hw]; rfl
  have hp : s1.branchPending = s.branchPending := by rw [hw]; rfl
  have ht : s1.branchTarget = s.branchTarget := by rw [hw]; rfl
  have hA := memStage_finish back.mem (A := s1.arch) hd
  rw [← h1]
  refine ⟨_, hA, ?_, fun p q => ?_⟩
  · obtain ⟨-, hpk, htk⟩ := retire_keeps (cfg := s.cfg) (w := s2.memwb)
      (A := { s1.arch with dmem := s2.dmem })
    exact exStage_finish back.ex (hpk.trans hp) (htk.trans ht)
  · exact retire_redirected (A := { s1.arch with dmem := s2.dmem }) p q

theorem finishId_bubble (cfg : Config) : finishId cfg bubble = some :=
  funext fun _ => finishId_of_nop rfl

theorem finishEx_bubble (cfg : Config) : finishEx cfg bubble = some :=
  funext fun _ => finishEx_of_nop rfl

section Flush
variable {s t : State}

/-- A memory wait leaves everything in flight to do. -/
theorem flush_memWait {s1 : State} (wb : wbStage s = .next s1) (hc : t.cfg = s.cfg)
    (ha : t.arch = s1.arch) (hw : t.memwb = bubble) (hx : t.exmem = s.exmem)
    (hi : t.idex = s.idex) (hf : t.ifid = s.ifid) : flush t = flush s := by
  have hr : retire s.cfg bubble s1.arch = s1.arch := retire_of_nop rfl
  rw [flush, flush, hc, ha, hw, hx, hi, hf, hr, wbStage_arch wb]

/-- An EX wait does MEM and WB of what is ahead. -/
theorem flush_exWait {s1 s2 : State} (wb : wbStage s = .next s1) (mem : memStage s = .next s2)
    (hc : t.cfg = s.cfg) (ha : t.arch = { s1.arch with dmem := s2.dmem }) (hw : t.memwb = s2.memwb)
    (hx : t.exmem = exBubble) (hi : t.idex = s.idex) (hf : t.ifid = s.ifid) : flush t = flush s := by
  have hd : s1.dmem = s.dmem := by rw [wbStage_eq_afterWb wb]; rfl
  have hm := memStage_finish mem (A := s1.arch) hd
  have hn (A : Arch) : finishMem s.cfg exBubble A = some A := finishMem_of_nop rfl
  rw [flush, flush, hc, ha, hw, hx, hi, hf, hn, ← wbStage_arch wb, hm]

/-- A RAW stall does EX, MEM and WB of what is ahead of the record in `IFID`. -/
theorem flush_raw {s1 s2 u : State} (back : BackEnd s s1 s2 u) (hc : t.cfg = s.cfg)
    (ha : t.arch = ⟨s1.gp, s1.fp, s2.dmem, u.branchPending, u.branchTarget⟩)
    (hw : t.memwb = s2.memwb) (hx : t.exmem = u.exmem) (hi : t.idex = bubble)
    (hf : t.ifid = s.ifid) : flush t = flush s := by
  obtain ⟨A, hA, hE, hr⟩ := back.finish
  rw [flush, flush, hc, ha, hw, hx, hi, hf, hA, hr, finishEx_bubble, Option.bind_some, hE,
    Option.bind_fun_some]

/-- An unfrozen cycle that decodes and fetches nothing does one more stage of each record. -/
theorem flush_decode {s1 s2 u : State} (back : BackEnd s s1 s2 u)
    (hn : ¬ Conflict s s.idex.ir ∧ ¬ Conflict s s.exmem.ir) (hc : t.cfg = s.cfg)
    (ha : t.arch = ⟨s1.gp, s1.fp, s2.dmem, u.branchPending, u.branchTarget⟩)
    (hw : t.memwb = s2.memwb) (hx : t.exmem = u.exmem) (hi : t.idex = decodedLatch s1 s)
    (hf : t.ifid = bubble) : flush t = flush s := by
  obtain ⟨A, hA, hE, hr⟩ := back.finish
  rw [flush, flush, hc, ha, hw, hx, hi, hf, hA, hr, finishId_bubble, Option.bind_some,
    Option.bind_fun_some, ← hE]
  cases hB : finishEx s.cfg s.idex A with
  | none => rfl
  | some B => exact (decodedLatch_finished back.wb hn.1 hn.2 hA hB).symm

/-- A cycle that fetches leaves the record fetched to do after all the others, from the redirect that EX
has left. -/
theorem flush_fetch {s1 s2 u : State} {f : Latch} {B : Arch} (h : flush t = some B)
    (back : BackEnd s s1 s2 u) (hn : ¬ Conflict s s.idex.ir ∧ ¬ Conflict s s.exmem.ir)
    (hb : isBranch s.cfg.hasFp s.ifid.ir = false) (hc : t.cfg = s.cfg)
    (ha : t.arch = ⟨s1.gp, s1.fp, s2.dmem, false, u.branchTarget⟩)
    (hw : t.memwb = s2.memwb) (hx : t.exmem = u.exmem) (hi : t.idex = decodedLatch s1 s)
    (hf : t.ifid = f) :
    ∃ A, flush s = some A ∧ A.pending = u.branchPending ∧ A.target = u.branchTarget ∧
      finishId s.cfg f (A.redirected false A.target) = some B := by
  obtain ⟨A2, hA, hE, hr⟩ := back.finish
  have hred := finishMem_redirected (cfg := s.cfg) (x := u.exmem)
    (A := A2.redirected u.branchPending u.branchTarget) false u.branchTarget
  rw [Arch.redirected_redirected, ← hE] at hred
  rw [flush, hc, ha, hw, hx, hi, hf, hr, hred] at h
  rw [flush, hA, Option.bind_some]
  cases hA3 : finishEx s.cfg s.idex A2 with
  | none =>
    rw [hA3] at h
    cases h
  | some A3 =>
    have hd := decodedLatch_finished back.wb hn.1 hn.2 hA hA3
    have hnb : isBranch s.cfg.hasFp (decodedLatch s1 s).ir = false := by rwa [decodedLatch_ir]
    rw [hA3, Option.map_some, Option.bind_some, finishEx_redirected hnb] at h
    rw [Option.bind_some, hd]
    cases hA4 : finishEx s.cfg (decodedLatch s1 s) A3 with
    | none =>
      rw [hA4] at h
      cases h
    | some A4 =>
      rw [hA4, Option.map_some, Option.bind_some] at h
      obtain ⟨hp3, ht3, -⟩ := finishMem_frame (hE.symm.trans hA3)
      rw [finishEx_of_not_branch hnb] at hA4
      obtain ⟨hp4, ht4, -⟩ := finishMem_frame hA4
      have hp : A4.pending = u.branchPending := hp4.trans hp3
      have ht : A4.target = u.branchTarget := ht4.trans ht3
      exact ⟨A4, rfl, hp, ht, ht ▸ h⟩

end Flush

end Sys2Proof.Machine
end

section
/-! SUPPORT. The sequential machine beside the pipeline (45_pipeline_stages.md section 7 item 7): one
record run alone is finishing it from ID on, and each cycle of the pipeline is none or one of its
steps. -/

namespace Sys2Proof.Machine

/-! ## A record run alone -/

/-- WB changes the register files and `halted`, and halts for an `EOP` with no redirect pending. -/
theorem wbEffect_frame (s : State) (i : Instr) :
    ∃ gp fp, wbEffect s i = { s with
      gp := gp, fp := fp
      halted := s.halted || (decide (i.opcode = .EOP) && !s.branchPending) } := by
  cases i
  case eop => exact ⟨s.gp, s.fp, by simp [wbEffect, State.haltUnlessPending, Instr.opcode]⟩
  all_goals
    simp only [wbEffect, Instr.opcode, reduceCtorEq, decide_false, Bool.false_and, Bool.or_false]
    exact ⟨_, _, rfl⟩

/-- What IF of a record run alone leaves. -/
theorem afterIf_spec (r : Record) (s : State) :
    (afterIf r s).arch = s.arch ∧ (afterIf r s).ifid = { bubble with ir := r, npc := nextPc s } ∧
    (afterIf r s).pc = nextPc s ∧ (afterIf r s).imem = s.imem ∧ (afterIf r s).base = s.base ∧
    (afterIf r s).halted = s.halted ∧
    (afterIf r s).instCount =
      if r.op s.cfg.hasFp = some .EOP then s.instCount else s.instCount + 1#32 := by
  unfold afterIf
  split <;> exact ⟨rfl, rfl, rfl, rfl, rfl, rfl, rfl⟩

/-- What ID and EX of a record run alone leave. -/
theorem alone_spec (i : Instr) (s : State) :
    (alone i s).exmem = exmemOf s.cfg (idexOf s i) i.opcode ∧
    (alone i s).arch = resolve s.cfg (idexOf s i) i.opcode s.arch ∧
    (alone i s).pc = s.pc ∧ (alone i s).imem = s.imem ∧ (alone i s).base = s.base ∧
    (alone i s).halted = s.halted ∧ (alone i s).instCount = s.instCount := by
  have hkeep (e : State) (o : Opcode) : (resolved e o).pc = e.pc ∧ (resolved e o).imem = e.imem ∧
      (resolved e o).base = e.base ∧ (resolved e o).halted = e.halted ∧
      (resolved e o).instCount = e.instCount := by
    unfold resolved
    split <;> exact ⟨rfl, rfl, rfl, rfl, rfl⟩
  exact ⟨rfl, resolved_arch .., hkeep _ _⟩

/-- What a record run alone leaves of the rest of the state: `pc` and the count move on, and an `EOP`
halts. -/
structure RanAlone (r : Record) (s t : State) : Prop where
  cfg : t.cfg = s.cfg
  imem : t.imem = s.imem
  base : t.base = s.base
  pc : t.pc = nextPc s
  instCount : t.instCount =
    if r.op s.cfg.hasFp = some .EOP then s.instCount else s.instCount + 1#32
  halted : t.halted = (s.halted || decide (r.op s.cfg.hasFp = some .EOP))

/-- Running a record alone is finishing it from ID on. -/
theorem runAlone_finish {r : Record} {s : State} {B : Arch}
    (hr : registersInRange s.cfg.hasFp r = true) (hp : s.branchPending = false)
    (h : finishId s.cfg { bubble with ir := r, npc := nextPc s } s.arch = some B) :
    ∃ t, runAlone r s = .next t ∧ t.arch = B ∧ RanAlone r s t := by
  have hmo := middle_opcode hr
  have heo := ends_opcode hr
  obtain ⟨harch, hifid, hpc, himem, hbase, hhalted, hinst⟩ := afterIf_spec r s
  have hcfg := afterIf_cfg r s
  rw [runAlone_eq hr, memAccess_eq]
  rw [finishId] at h
  generalize Decoded.middle (decodeRecord s.cfg.hasFp r) = m at *
  generalize afterIf r s = a at *
  obtain ⟨hx, hres, hpc', himem', hbase', hhalted', hinst'⟩ := alone_spec m a
  have hcfg' := alone_cfg m a
  have hid : idexOf { s.arch.state s.cfg with ifid := { bubble with ir := r, npc := nextPc s } } m =
      idexOf a m := by
    obtain ⟨hgp, hfp, -⟩ := arch_eq_iff.1 harch
    exact idexOf_congr (s := { s.arch.state s.cfg with
      ifid := { bubble with ir := r, npc := nextPc s } }) hgp.symm hfp.symm hifid.symm m
  have hir : (idexOf a m).ir = r := by rw [idexOf_ir, hifid]
  rw [hid, finishEx, hir, ← hmo, finishMem, exmemOf_ir, hir, ← hmo] at h
  obtain ⟨p, hacc, hB⟩ := Option.map_eq_some_iff.1 h
  have hpir : p.2.ir = r := (accessed_ir hacc).trans ((exmemOf_ir ..).trans hir)
  generalize alone m a = w at *
  rw [hcfg, harch] at hres
  have hdm : w.dmem = (resolve s.cfg (idexOf a m) m.opcode s.arch).dmem := congrArg Arch.dmem hres
  have hacc' : accessed w.cfg w.dmem w.exmem m.opcode = some p := by
    rw [hcfg', hcfg, hdm, hx, hcfg, hacc]
  -- the state in which the record reaches WB
  have hE : ∃ E : State, ({ w with dmem := p.1, memwb := p.2 } : State).atStage .WB = E ∧
      E.arch = { w.arch with dmem := p.1 } ∧ E.memwb = p.2 ∧ E.cfg = w.cfg ∧ E.imem = w.imem ∧
      E.base = w.base ∧ E.pc = w.pc ∧ E.instCount = w.instCount ∧ E.halted = w.halted ∧
      E.branchPending = w.branchPending :=
    ⟨_, rfl, rfl, rfl, rfl, rfl, rfl, rfl, rfl, rfl, rfl⟩
  obtain ⟨E, hEq, hEarch, hEwb, hEcfg, hEimem, hEbase, hEpc, hEinst, hEhalt, hEp⟩ := hE
  rw [hacc']
  refine ⟨wbEffect E (Decoded.ends (decodeRecord s.cfg.hasFp r)), hEq ▸ rfl, ?_, ?_⟩
  · rw [← hB, retire, hpir]
    refine wbEffect_congr (t := { ({ resolve s.cfg (idexOf a m) m.opcode s.arch with
      dmem := p.1 } : Arch).state s.cfg with memwb := p.2 }) ?_ hEwb _
    rw [hEarch, hres]
    rfl
  obtain ⟨gp, fp, hframe⟩ := wbEffect_frame E (Decoded.ends (decodeRecord s.cfg.hasFp r))
  rw [hframe]
  have heop : (Decoded.ends (decodeRecord s.cfg.hasFp r)).opcode = .EOP ↔
      r.op s.cfg.hasFp = some .EOP := by
    rw [heo]
    cases r.op s.cfg.hasFp <;> simp
  have hpend : r.op s.cfg.hasFp = some .EOP → E.branchPending = false := fun ho => by
    have hm : m.opcode = .EOP := by rw [hmo, ho]; rfl
    rw [resolve_of_takenOf_none (by rw [hm]; rfl)] at hres
    exact hEp.trans ((congrArg Arch.pending hres).trans hp)
  refine ⟨?_, ?_, ?_, ?_, ?_, ?_⟩
  · exact hEcfg.trans (hcfg'.trans hcfg)
  · exact hEimem.trans (himem'.trans himem)
  · exact hEbase.trans (hbase'.trans hbase)
  · exact hEpc.trans (hpc'.trans hpc)
  · exact hEinst.trans (hinst'.trans hinst)
  · change (E.halted || _) = _
    rw [hEhalt, hhalted', hhalted]
    by_cases ho : r.op s.cfg.hasFp = some .EOP
    · simp [heop.2 ho, ho, hpend ho]
    · simp [mt heop.1 ho, ho]

/-! ## The simulation -/

/-- The sequential machine `v` beside the pipeline in `s`: it has finished everything in flight, and has
halted once the `EOP` is in flight. -/
structure Beside (s : State) (A : Arch) (v : State) : Prop where
  cfg : v.cfg = s.cfg
  imem : v.imem = s.imem
  base : v.base = s.base
  pc : v.pc = s.pc
  instCount : v.instCount = s.instCount
  halted : v.halted = s.eopFetched
  arch : v.arch = A

/-- A cycle of the pipeline from `s` to `t` is none or one of the steps of the machine beside it. -/
def Simulates (s t : State) (B : Arch) : Prop :=
  ∃ A, flush s = some A ∧ ∀ v, Beside s A v → ∃ m w, runSequential m v = .next w ∧ Beside t B w

section Simulation
variable {s t : State} {B : Arch}

/-- A cycle that fetches nothing is none of its steps. -/
theorem simulates_of_flush (h : flush t = some B) (hflush : flush t = flush s) (hc : t.cfg = s.cfg)
    (hm : t.imem = s.imem) (hb : t.base = s.base) (hpc : t.pc = s.pc)
    (hi : t.instCount = s.instCount) (he : t.eopFetched = s.eopFetched) : Simulates s t B :=
  ⟨B, hflush ▸ h, fun v hv => ⟨0, v, rfl, hv.cfg.trans hc.symm, hv.imem.trans hm.symm,
    hv.base.trans hb.symm, hv.pc.trans hpc.symm, hv.instCount.trans hi.symm,
    hv.halted.trans he.symm, hv.arch⟩⟩

/-- A cycle that fetches a record is the step that runs it. -/
theorem simulates_of_fetch {u : State} {r : Record} {A : Arch} (hs : flush s = some A)
    (hp : A.pending = u.branchPending) (ht : A.target = u.branchTarget)
    (hkeep : u.cfg = s.cfg ∧ u.pc = s.pc ∧ u.base = s.base ∧ u.imem = s.imem)
    (hr : fetchRecord (redirect u) = .ok r) (hin : registersInRange s.cfg.hasFp r = true)
    (hrun : s.eopFetched = false)
    (hf : finishId s.cfg (fetchedLatch r u) (A.redirected false A.target) = some B)
    (hc : t.cfg = s.cfg) (hm : t.imem = s.imem) (hb : t.base = s.base)
    (hpc : t.pc = nextPc (redirect u))
    (hi : t.instCount = if r.op s.cfg.hasFp = some .EOP then s.instCount else s.instCount + 1#32)
    (he : t.eopFetched = (s.eopFetched || decide (r.op s.cfg.hasFp = some .EOP))) :
    Simulates s t B := by
  refine ⟨A, hs, fun v hv => ?_⟩
  obtain ⟨-, hupc, hubase, huimem⟩ := hkeep
  have hvp : v.branchPending = u.branchPending := (congrArg Arch.pending hv.arch).trans hp
  have hvt : v.branchTarget = u.branchTarget := (congrArg Arch.target hv.arch).trans ht
  have hpc' : (redirect v).pc = (redirect u).pc := by
    rw [redirect_pc, redirect_pc, hvp, hvt, hv.pc, hupc]
  have hframe := redirect_frame v
  have hbase : (redirect v).base = (redirect u).base := by
    rw [hframe, redirect_frame u]
    exact hv.base.trans hubase.symm
  have himem : (redirect v).imem = (redirect u).imem := by
    rw [hframe, redirect_frame u]
    exact hv.imem.trans huimem.symm
  obtain ⟨hrec, hnext⟩ := fetch_congr hpc' hbase himem
  have hcfg : (redirect v).cfg = s.cfg := by rw [hframe]; exact hv.cfg
  have harch : (redirect v).arch = A.redirected false A.target := by
    rw [hframe, ← hv.arch]; rfl
  have hpend : (redirect v).branchPending = false := by rw [hframe]
  have hhalted : (redirect v).halted = s.eopFetched := by rw [hframe]; exact hv.halted
  have hinst : (redirect v).instCount = s.instCount := by rw [hframe]; exact hv.instCount
  have hfin : finishId (redirect v).cfg
      { bubble with ir := r, npc := nextPc (redirect v) } (redirect v).arch = some B := by
    rw [hcfg, harch, hnext]
    exact hf
  obtain ⟨w, hw, hwarch, ran⟩ := runAlone_finish (hcfg ▸ hin) hpend hfin
  refine ⟨1, w, ?_, ?_⟩
  · have hv0 : v.halted = false := hv.halted.trans hrun
    have hstep : sequentialStep v = .next w := by
      rw [sequentialStep, hrec, hr]
      exact hw
    rw [runSequential, if_neg (by simp [hv0]), hstep]
    rfl
  · have hcfgw := ran.cfg.trans hcfg
    refine ⟨hcfgw.trans hc.symm, ?_, ?_, ?_, ?_, ?_, hwarch⟩
    · rw [ran.imem, himem, redirect_frame, hm]
      exact huimem
    · rw [ran.base, hbase, redirect_frame, hb]
      exact hubase
    · rw [ran.pc, hnext, hpc]
    · rw [ran.instCount, hcfg, hinst, hi]
    · rw [ran.halted, hcfg, hhalted, he]

/-- Every cycle of the pipeline is none or one of the steps of the sequential machine. -/
theorem CycleTo.simulates (h : CycleTo s t) (hz : HazardInv s) (hB : flush t = some B) :
    Simulates s t B := by
  have hst := stallTo s false
  have hclear := (hst.hazard hz).2
  cases h with
  | @memWait s1 wb wait =>
    refine simulates_of_flush hB ?_ rfl rfl rfl rfl rfl rfl
    have harch : (afterWb s1 s).arch = s1.arch := by
      rw [wbStage_eq_afterWb wb]; rfl
    exact flush_memWait wb rfl harch rfl rfl rfl rfl
  | @exWait s1 s2 wb go mem busy =>
    refine simulates_of_flush hB ?_ rfl rfl rfl rfl rfl rfl
    have harch : (afterMem s1 s2 s).arch = { s1.arch with dmem := s2.dmem } := by
      rw [wbStage_eq_afterWb wb]; rfl
    exact flush_exWait wb mem rfl harch rfl rfl rfl rfl
  | raw back kind =>
    refine simulates_of_flush hB ?_ rfl rfl rfl rfl rfl rfl
    exact flush_raw back rfl rfl rfl rfl rfl rfl
  | branch back kind =>
    have hn := hclear (by rw [kind]; decide)
    refine simulates_of_flush hB ?_ rfl rfl rfl rfl rfl rfl
    exact flush_decode back hn rfl rfl rfl rfl rfl rfl
  | drain back kind =>
    have hn := hclear (by rw [kind]; decide)
    refine simulates_of_flush hB ?_ rfl rfl rfl rfl rfl rfl
    exact flush_decode back hn rfl rfl rfl rfl rfl rfl
  | @fetch s1 s2 u r back kind regs eop fetched inRange =>
    have hn := hclear (by rw [kind]; decide)
    rw [kind] at hst
    obtain ⟨A, hA, hp, ht, hf⟩ :=
      flush_fetch hB back hn hst.none_no_branch rfl rfl rfl rfl rfl rfl
    exact simulates_of_fetch hA hp ht (exStage_keeps back.ex) fetched inRange eop hf rfl rfl rfl rfl
      rfl rfl

/-- `runSequential` in two parts. -/
theorem runSequential_add (a b : Nat) (s : State) :
    runSequential (a + b) s = andThen (runSequential a s) (runSequential b) := by
  induction a generalizing s with
  | zero => rw [Nat.zero_add]; rfl
  | succ a ih =>
    rw [Nat.succ_add, runSequential, runSequential]
    split
    · next hh =>
      cases b with
      | zero => rfl
      | succ b => rw [andThen_next, runSequential, if_pos hh]
    · have hf : runSequential (a + b) = fun t => andThen (runSequential a t) (runSequential b) :=
        funext ih
      rw [hf, andThen_assoc]

/-- A run of the pipeline is a run of the sequential machine. -/
theorem simulates_of_run {n : Nat} (hz : HazardInv s) (h : runCycles n s = .next t)
    (hB : flush t = some B) : Simulates s t B := by
  induction n generalizing s with
  | zero =>
    obtain rfl := Host.Outcome.next.inj h
    exact simulates_of_flush hB rfl rfl rfl rfl rfl rfl rfl
  | succ n ih =>
    obtain ⟨u, hu, hrun⟩ := andThen_eq_next.1 h
    obtain ⟨hl, ⟨-, rfl⟩ | ⟨runs, -⟩⟩ := driverStep_cases hu
    · exact ih hz hrun
    · have hc := cycleTo_of_step ⟨hl, runs⟩ hu
      obtain ⟨A', hA', hrest⟩ := ih (hc.hazardInv hz) hrun
      obtain ⟨A, hA, hfirst⟩ := hc.simulates hz hA'
      refine ⟨A, hA, fun v hv => ?_⟩
      obtain ⟨m, w, hw, hwb⟩ := hfirst v hv
      obtain ⟨m', w', hw', hwb'⟩ := hrest w hwb
      exact ⟨m + m', w', by rw [runSequential_add, hw, andThen_next, hw'], hwb'⟩

end Simulation

/-- With nothing in flight there is nothing to finish. -/
theorem flush_of_nops {s : State} (hf : s.ifid.ir = nopRec) (hi : s.idex.ir = nopRec)
    (hx : s.exmem.ir = nopRec) (hw : s.memwb.ir = nopRec) : flush s = some s.arch := by
  rw [flush, retire_of_nop hw, finishMem_of_nop hx, Option.bind_some, finishEx_of_nop hi,
    Option.bind_some, finishId_of_nop hf]

/-- Settles O52: the simulation of the whole run, from the loaded machine to the drained one, both of
which have nothing in flight. -/
theorem pipelinePreservesSequentialReading : Obligations.PipelinePreservesSequentialReading := by
  rintro s t hs ⟨n, h, hh⟩
  obtain ⟨-, -, heop, hifid, hidex, hexmem, hmemwb, -⟩ :=
    haltedRunAccountsForEveryCycle s t n hs h hh
  have hfresh : flush s = some s.arch ∧ HazardInv s ∧ s.halted = s.eopFetched := by
    obtain ⟨cfg, us, prog, base, gp, fp, dmem, -, rfl⟩ := hs
    exact ⟨flush_of_nops rfl rfl rfl rfl, ⟨nofun, nofun⟩, rfl⟩
  obtain ⟨hflush, hz, hsame⟩ := hfresh
  have hdone : flush t = some t.arch := by
    apply flush_of_nops
    · rw [hifid]; rfl
    · rw [hidex]; rfl
    · rw [hexmem]; rfl
    · rw [hmemwb]; rfl
  obtain ⟨A, hA, hsim⟩ := simulates_of_run hz h hdone
  obtain rfl := Option.some.inj (hA.symm.trans hflush)
  obtain ⟨m, u, hu, hbeside⟩ := hsim s ⟨rfl, rfl, rfl, rfl, rfl, hsame, rfl⟩
  obtain ⟨hgp, hfp, hdmem, -⟩ := arch_eq_iff.1 hbeside.arch
  exact ⟨m, u, hu, hbeside.halted.trans heop, hgp.symm, hfp.symm, hdmem.symm, hbeside.pc.symm,
    hbeside.instCount.symm⟩

end Sys2Proof.Machine
end
